-- ==== Sys2Proof/Word.lean ====
section
/-! DEFINITION. The 32-bit word of BLDC-CORE and the two small index types of its encodings.
Everything a rule computes over words stands in Sys2Proof/Machine/. -/

namespace Sys2Proof

/-- Every register, operand and transferred value is one 32-bit word (R8, R60). Read as a number it is
`toInt` (two's complement; a Q16.16 value is `toInt / 65536`) or `toNat` (unsigned). -/
abbrev Word := BitVec 32

/-- A register field of a command word: an unsigned 4-bit number naming a general register (R81). -/
abbrev RegIdx := BitVec 4

/-- A word index of the register space, 0..255 (R60). -/
abbrev PortIdx := BitVec 8

end Sys2Proof
end

