-- ==== Sys2Proof/Syntax.lean ====
section
/-! DEFINITION. The commands of BLDC-CORE as syntax: one constructor for each of the 31 rows of the opcode map
(R83), its operands in the assembler order of that map (destinations first, then sources). Every operand is a
4-bit register number; there are no immediates (R81, R86). -/

namespace Sys2Proof

/-- A command (R83). `rd`, `rd2`, `rd3` are destinations, `rs1` to `rs4` sources (R81). -/
inductive Instr where
  /-- NOP, `op = 0x00`, format Z (R240). -/
  | nop
  /-- ADD, `op = 0x01`, format D1S2 (R100). -/
  | add (rd rs1 rs2 : RegIdx)
  /-- SUB, `op = 0x02`, format D1S2 (R101). -/
  | sub (rd rs1 rs2 : RegIdx)
  /-- MUL, `op = 0x03`, format D1S2 (R102). -/
  | mul (rd rs1 rs2 : RegIdx)
  /-- DIV, `op = 0x04`, format D1S2 (R103). -/
  | div (rd rs1 rs2 : RegIdx)
  /-- FROMINT, `op = 0x05`, format D1S1 (R104). -/
  | fromint (rd rs1 : RegIdx)
  /-- TOINT, `op = 0x06`, format D1S1 (R105). -/
  | toint (rd rs1 : RegIdx)
  /-- FROMFRAC, `op = 0x07`, format D1S2: `rs1` numerator, `rs2` denominator (R106). -/
  | fromfrac (rd rs1 rs2 : RegIdx)
  /-- WRAP, `op = 0x08`, format D1S1 (R107). -/
  | wrap (rd rs1 : RegIdx)
  /-- SINCOS, `op = 0x09`, format D2S1: `rd` sine, `rd2` cosine (R130). -/
  | sincos (rd rd2 rs1 : RegIdx)
  /-- ASR, `op = 0x0A`, format D1S2: `rs1` value, `rs2` amount (R108). -/
  | asr (rd rs1 rs2 : RegIdx)
  /-- CLARKE, `op = 0x10`, format D2S2: `rd` alpha, `rd2` beta (R140). -/
  | clarke (rd rd2 rs1 rs2 : RegIdx)
  /-- ICLARKE, `op = 0x11`, format D3S2: `rd`, `rd2`, `rd3` phases a, b, c (R141). -/
  | iclarke (rd rd2 rd3 rs1 rs2 : RegIdx)
  /-- PARK, `op = 0x12`, format D2S3: `rd` d, `rd2` q, `rs3` angle (R142). -/
  | park (rd rd2 rs1 rs2 rs3 : RegIdx)
  /-- IPARK, `op = 0x13`, format D2S3: `rd` alpha, `rd2` beta, `rs3` angle (R143). -/
  | ipark (rd rd2 rs1 rs2 rs3 : RegIdx)
  /-- PID0, `op = 0x20`, format D1S3: `rs1` setpoint, `rs2` measurement, `rs3` time step (R151). -/
  | pid0 (rd rs1 rs2 rs3 : RegIdx)
  /-- PID1, `op = 0x21`, format D1S3 (R151). -/
  | pid1 (rd rs1 rs2 rs3 : RegIdx)
  /-- PID2, `op = 0x22`, format D1S3 (R151). -/
  | pid2 (rd rs1 rs2 rs3 : RegIdx)
  /-- SLEWD, `op = 0x24`, format D1S3: `rs1` previous output, `rs2` target, `rs3` time step (R154). -/
  | slewd (rd rs1 rs2 rs3 : RegIdx)
  /-- SLEWQ, `op = 0x25`, format D1S3 (R154). -/
  | slewq (rd rs1 rs2 rs3 : RegIdx)
  /-- SSTEP, `op = 0x26`, format D1S2: `rs1` enable, `rs2` time step (R157). -/
  | sstep (rd rs1 rs2 : RegIdx)
  /-- PLLSTEP, `op = 0x30`, format D2S4: `rd` speed, `rd2` squared back-EMF (R171). -/
  | pllstep (rd rd2 rs1 rs2 rs3 rs4 : RegIdx)
  /-- FOCSTEP, `op = 0x31`, format D2S3: `rd` v alpha, `rd2` v beta, `rs3` angle (R181). -/
  | focstep (rd rd2 rs1 rs2 rs3 : RegIdx)
  /-- SVPWM, `op = 0x32`, format S2 (R192). -/
  | svpwm (rs1 rs2 : RegIdx)
  /-- STINIT, `op = 0x33`, format Z (R201). -/
  | stinit
  /-- STTICK, `op = 0x34`, format D1S3: `rs1` speed, `rs2` squared back-EMF, `rs3` observer angle (R208). -/
  | sttick (rd rs1 rs2 rs3 : RegIdx)
  /-- TICK, `op = 0x35`, format Z (R210). -/
  | tick
  /-- REINIT, `op = 0x36`, format Z (R200). -/
  | reinit
  /-- CLRSTAT, `op = 0x37`, format Z (R241). -/
  | clrstat
  /-- CALINIT, `op = 0x40`, format S2: `rs1` reference voltage, `rs2` smoothing coefficient (R230). -/
  | calinit (rs1 rs2 : RegIdx)
  /-- CALUPD, `op = 0x41`, format S1: `rs1` raw count (R231). -/
  | calupd (rs1 : RegIdx)
deriving DecidableEq, Repr

/-- The eleven formats of R82: which register fields of the word a command uses. -/
inductive Format where
  | z | s1 | s2 | d1s1 | d1s2 | d1s3 | d2s1 | d2s2 | d3s2 | d2s3 | d2s4
deriving DecidableEq, Repr

/-- Why a word written to CMD is no command. Both cases are the one condition ILL of R251. -/
inductive DecodeError where
  /-- The opcode is not in the table of R83 (R85). -/
  | reservedOpcode (op : BitVec 8)
  /-- The opcode is in the table and a field its format does not use is not 0 (R84). -/
  | unusedFieldNotZero (f : Format)
deriving DecidableEq, Repr

end Sys2Proof
end

