-- ==== Sys2Proof/Decode.lean ====
section
/-! DEFINITION. The command word (R80 to R85): field layout, formats and masks, the decoder, the encoder of R88 and
`decodeTableWord`. -/

namespace Sys2Proof

/-- `op`, bits 31:24 (R81). -/
def opField (w : Word) : BitVec 8 := w.extractLsb' 24 8
/-- `rd`, bits 23:20 (R81). -/
def rdField (w : Word) : RegIdx := w.extractLsb' 20 4
/-- `rd2`, bits 19:16 (R81). -/
def rd2Field (w : Word) : RegIdx := w.extractLsb' 16 4
/-- `rs1`, bits 15:12 (R81). -/
def rs1Field (w : Word) : RegIdx := w.extractLsb' 12 4
/-- `rs2`, bits 11:8 (R81). -/
def rs2Field (w : Word) : RegIdx := w.extractLsb' 8 4
/-- `rs3`, bits 7:4; in format D3S2 it is `rd3` (R81). -/
def rs3Field (w : Word) : RegIdx := w.extractLsb' 4 4
/-- `rs4`, bits 3:0 (R81). -/
def rs4Field (w : Word) : RegIdx := w.extractLsb' 0 4

/-- The mask of a format: the opcode bits and the fields the format does not use (R82). -/
def Format.mask : Format → Word
  | .z    => 0xFFFFFFFF#32
  | .s1   => 0xFFFF0FFF#32
  | .s2   => 0xFFFF00FF#32
  | .d1s1 => 0xFF0F0FFF#32
  | .d1s2 => 0xFF0F00FF#32
  | .d1s3 => 0xFF0F000F#32
  | .d2s1 => 0xFF000FFF#32
  | .d2s2 => 0xFF0000FF#32
  | .d3s2 => 0xFF00000F#32
  | .d2s3 => 0xFF00000F#32
  | .d2s4 => 0xFF000000#32

/-- The instruction `i` if every field the format does not use is 0 (R84), given that the opcode is `i`'s. -/
def inFormat (f : Format) (w : Word) (i : Instr) : Except DecodeError Instr :=
  if w &&& f.mask = (opField w).setWidth 32 <<< 24 then .ok i else .error (.unusedFieldNotZero f)

/-- The decoder: total on all words, by the opcode map of R83 and the format check of R84; every other opcode is
reserved (R85). -/
def decode (w : Word) : Except DecodeError Instr :=
  let rd := rdField w
  let rd2 := rd2Field w
  let rs1 := rs1Field w
  let rs2 := rs2Field w
  let rs3 := rs3Field w
  let rs4 := rs4Field w
  match opField w with
  | 0x00#8 => inFormat .z w .nop
  | 0x01#8 => inFormat .d1s2 w (.add rd rs1 rs2)
  | 0x02#8 => inFormat .d1s2 w (.sub rd rs1 rs2)
  | 0x03#8 => inFormat .d1s2 w (.mul rd rs1 rs2)
  | 0x04#8 => inFormat .d1s2 w (.div rd rs1 rs2)
  | 0x05#8 => inFormat .d1s1 w (.fromint rd rs1)
  | 0x06#8 => inFormat .d1s1 w (.toint rd rs1)
  | 0x07#8 => inFormat .d1s2 w (.fromfrac rd rs1 rs2)
  | 0x08#8 => inFormat .d1s1 w (.wrap rd rs1)
  | 0x09#8 => inFormat .d2s1 w (.sincos rd rd2 rs1)
  | 0x0A#8 => inFormat .d1s2 w (.asr rd rs1 rs2)
  | 0x10#8 => inFormat .d2s2 w (.clarke rd rd2 rs1 rs2)
  | 0x11#8 => inFormat .d3s2 w (.iclarke rd rd2 rs3 rs1 rs2)
  | 0x12#8 => inFormat .d2s3 w (.park rd rd2 rs1 rs2 rs3)
  | 0x13#8 => inFormat .d2s3 w (.ipark rd rd2 rs1 rs2 rs3)
  | 0x20#8 => inFormat .d1s3 w (.pid0 rd rs1 rs2 rs3)
  | 0x21#8 => inFormat .d1s3 w (.pid1 rd rs1 rs2 rs3)
  | 0x22#8 => inFormat .d1s3 w (.pid2 rd rs1 rs2 rs3)
  | 0x24#8 => inFormat .d1s3 w (.slewd rd rs1 rs2 rs3)
  | 0x25#8 => inFormat .d1s3 w (.slewq rd rs1 rs2 rs3)
  | 0x26#8 => inFormat .d1s2 w (.sstep rd rs1 rs2)
  | 0x30#8 => inFormat .d2s4 w (.pllstep rd rd2 rs1 rs2 rs3 rs4)
  | 0x31#8 => inFormat .d2s3 w (.focstep rd rd2 rs1 rs2 rs3)
  | 0x32#8 => inFormat .s2 w (.svpwm rs1 rs2)
  | 0x33#8 => inFormat .z w .stinit
  | 0x34#8 => inFormat .d1s3 w (.sttick rd rs1 rs2 rs3)
  | 0x35#8 => inFormat .z w .tick
  | 0x36#8 => inFormat .z w .reinit
  | 0x37#8 => inFormat .z w .clrstat
  | 0x40#8 => inFormat .s2 w (.calinit rs1 rs2)
  | 0x41#8 => inFormat .s1 w (.calupd rs1)
  | op => .error (.reservedOpcode op)

/-- The opcode of a command (R83). -/
def Instr.opcode : Instr → BitVec 8
  | .nop => 0x00#8
  | .add .. => 0x01#8
  | .sub .. => 0x02#8
  | .mul .. => 0x03#8
  | .div .. => 0x04#8
  | .fromint .. => 0x05#8
  | .toint .. => 0x06#8
  | .fromfrac .. => 0x07#8
  | .wrap .. => 0x08#8
  | .sincos .. => 0x09#8
  | .asr .. => 0x0A#8
  | .clarke .. => 0x10#8
  | .iclarke .. => 0x11#8
  | .park .. => 0x12#8
  | .ipark .. => 0x13#8
  | .pid0 .. => 0x20#8
  | .pid1 .. => 0x21#8
  | .pid2 .. => 0x22#8
  | .slewd .. => 0x24#8
  | .slewq .. => 0x25#8
  | .sstep .. => 0x26#8
  | .pllstep .. => 0x30#8
  | .focstep .. => 0x31#8
  | .svpwm .. => 0x32#8
  | .stinit => 0x33#8
  | .sttick .. => 0x34#8
  | .tick => 0x35#8
  | .reinit => 0x36#8
  | .clrstat => 0x37#8
  | .calinit .. => 0x40#8
  | .calupd .. => 0x41#8

/-- The format of a command (R83). -/
def Instr.format : Instr → Format
  | .nop | .stinit | .tick | .reinit | .clrstat => .z
  | .calupd .. => .s1
  | .svpwm .. | .calinit .. => .s2
  | .fromint .. | .toint .. | .wrap .. => .d1s1
  | .add .. | .sub .. | .mul .. | .div .. | .fromfrac .. | .asr .. | .sstep .. => .d1s2
  | .pid0 .. | .pid1 .. | .pid2 .. | .slewd .. | .slewq .. | .sttick .. => .d1s3
  | .sincos .. => .d2s1
  | .clarke .. => .d2s2
  | .iclarke .. => .d3s2
  | .park .. | .ipark .. | .focstep .. => .d2s3
  | .pllstep .. => .d2s4

/-- `op << 24 | rd << 20 | rd2 << 16 | rs1 << 12 | rs2 << 8 | rs3 << 4 | rs4` (R88), the seven fields side by side. -/
def packFields (op : BitVec 8) (rd rd2 rs1 rs2 rs3 rs4 : RegIdx) : Word :=
  op ++ rd ++ rd2 ++ rs1 ++ rs2 ++ rs3 ++ rs4

/-- The encoding of a command, the fields its format does not use set to 0 (R88). -/
def encode (i : Instr) : Word :=
  let op := i.opcode
  match i with
  | .nop => packFields op 0 0 0 0 0 0
  | .add rd rs1 rs2 => packFields op rd 0 rs1 rs2 0 0
  | .sub rd rs1 rs2 => packFields op rd 0 rs1 rs2 0 0
  | .mul rd rs1 rs2 => packFields op rd 0 rs1 rs2 0 0
  | .div rd rs1 rs2 => packFields op rd 0 rs1 rs2 0 0
  | .fromint rd rs1 => packFields op rd 0 rs1 0 0 0
  | .toint rd rs1 => packFields op rd 0 rs1 0 0 0
  | .fromfrac rd rs1 rs2 => packFields op rd 0 rs1 rs2 0 0
  | .wrap rd rs1 => packFields op rd 0 rs1 0 0 0
  | .sincos rd rd2 rs1 => packFields op rd rd2 rs1 0 0 0
  | .asr rd rs1 rs2 => packFields op rd 0 rs1 rs2 0 0
  | .clarke rd rd2 rs1 rs2 => packFields op rd rd2 rs1 rs2 0 0
  | .iclarke rd rd2 rd3 rs1 rs2 => packFields op rd rd2 rs1 rs2 rd3 0
  | .park rd rd2 rs1 rs2 rs3 => packFields op rd rd2 rs1 rs2 rs3 0
  | .ipark rd rd2 rs1 rs2 rs3 => packFields op rd rd2 rs1 rs2 rs3 0
  | .pid0 rd rs1 rs2 rs3 => packFields op rd 0 rs1 rs2 rs3 0
  | .pid1 rd rs1 rs2 rs3 => packFields op rd 0 rs1 rs2 rs3 0
  | .pid2 rd rs1 rs2 rs3 => packFields op rd 0 rs1 rs2 rs3 0
  | .slewd rd rs1 rs2 rs3 => packFields op rd 0 rs1 rs2 rs3 0
  | .slewq rd rs1 rs2 rs3 => packFields op rd 0 rs1 rs2 rs3 0
  | .sstep rd rs1 rs2 => packFields op rd 0 rs1 rs2 0 0
  | .pllstep rd rd2 rs1 rs2 rs3 rs4 => packFields op rd rd2 rs1 rs2 rs3 rs4
  | .focstep rd rd2 rs1 rs2 rs3 => packFields op rd rd2 rs1 rs2 rs3 0
  | .svpwm rs1 rs2 => packFields op 0 0 rs1 rs2 0 0
  | .stinit => packFields op 0 0 0 0 0 0
  | .sttick rd rs1 rs2 rs3 => packFields op rd 0 rs1 rs2 rs3 0
  | .tick => packFields op 0 0 0 0 0 0
  | .reinit => packFields op 0 0 0 0 0 0
  | .clrstat => packFields op 0 0 0 0 0 0
  | .calinit rs1 rs2 => packFields op 0 0 rs1 rs2 0 0
  | .calupd rs1 => packFields op 0 0 rs1 0 0 0

/-- The command word whose low `nbits` bits are those of `w`, all others 0. -/
def tableWord (nbits w : Nat) : Word := BitVec.ofNat 32 (w % 2 ^ nbits)

/-- The command the decoder reads from the table word `w` of `nbits` bits; none where it is illegal. A command word
crosses the port as one number (R61, R63), so there is no byte order to lay out. -/
def decodeTableWord (nbits w : Nat) : Option Instr :=
  match decode (tableWord nbits w) with
  | .ok i => some i
  | .error _ => none

end Sys2Proof
end

