-- ==== Sys2Proof/Config.lean ====
section
/-! DEFINITION. The configuration constants of R6: what the implementer of one BLDC-CORE fixes when the block is
built. The spec gives none of them a value; a model takes them as parameters. -/

namespace Sys2Proof

/-- Gains and clamp bounds of one PID instance: `PID_KP[k]`, `PID_KI[k]`, `PID_KD[k]`, `PID_OUT_MIN[k]`,
`PID_OUT_MAX[k]` (R6). -/
structure PidCfg where
  kp : Word
  ki : Word
  kd : Word
  outMin : Word
  outMax : Word
deriving DecidableEq, Repr, Inhabited

/-- Rate limits of one slew limiter: `SLEW_UP[j]`, `SLEW_DN[j]` (R6). -/
structure SlewCfg where
  up : Word
  dn : Word
deriving DecidableEq, Repr, Inhabited

/-- The parameters of R6, but for `FRAC_BITS = 16` and `CORDIC_ITER = 12`, which R7 fixes (the length of
`cordicAtan` is the iteration count). `BUS_BYTE_ORDER` changes no rule (R63) and is no field (log 8). -/
structure Config where
  /-- `CORDIC_K`, the start vector of the rotation (R133). -/
  cordicK : Word
  /-- `CORDIC_ATAN[0..11]`, turns (R133). -/
  cordicAtan : Vector Word 12
  /-- `TS`, the sample period, seconds. -/
  ts : Word
  /-- d axis. -/
  pid0 : PidCfg
  /-- q axis. -/
  pid1 : PidCfg
  /-- Speed. -/
  pid2 : PidCfg
  /-- Vd. -/
  slew0 : SlewCfg
  /-- Vq. -/
  slew1 : SlewCfg
  ssRise : Word
  pllKp : Word
  pllKi : Word
  pllRs : Word
  pllLs : Word
  pllAlpha : Word
  pllWMax : Word
  pllWMin : Word
  pllIMax : Word
  pllIMin : Word
  /-- `P_PLL_LOWER_CLAMP` (R172). -/
  pllLowerClamp : Bool
  /-- `P_BLEND_FEEDS_FOC` (R209). -/
  blendFeedsFoc : Bool
  iOcLimit : Word
  /-- A plain integer. -/
  pwmMax : Word
  /-- A plain integer no rule reads (R190). -/
  svmMarkerMargin : Word
  /-- Unsigned, as are the other tick counts. -/
  stAlignTimeTicks : Word
  stAlignId : Word
  stRampIqTarget : Word
  stRampIqStep : Word
  stDthetaMax : Word
  stDthetaSlew : Word
  stHandoffMinTicks : Word
  stHandoffOmegaMin : Word
  stHandoffEmf2Min : Word
  stTimeoutTicks : Word
  stBlendTicks : Word
  stIdDecayStep : Word
  /-- A plain integer. -/
  calFullScale : Word
  calDefaultSupply : Word
deriving DecidableEq, Repr, Inhabited

/-- DESIGN CHOICE (log 2): the configuration the block under `State.reset` was built with. The spec leaves every
constant open (R6, 93 I7), so this is a constant without a body: nothing can be proved of its value. -/
opaque Config.built : Config

/-- The default arctangent table of R7. -/
def Config.defaultAtan : Vector Word 12 :=
  #v[0x2000#32, 0x12E4#32, 0x09FB#32, 0x0511#32, 0x028B#32, 0x0146#32,
     0x00A3#32, 0x0051#32, 0x0029#32, 0x0014#32, 0x000A#32, 0x0005#32]

/-- REFCFG, the example configuration of 95_test_vectors.md section 0, with the defaults of R7. It is the spec's
example, used by the tests and by the witnesses of the statements; the machine is not built with it. -/
def Config.refcfg : Config where
  cordicK := 0x00009B75#32
  cordicAtan := Config.defaultAtan
  ts := 3#32
  pid0 := ⟨0x00008000#32, 0x03E80000#32, 0#32, 0xFFFF0000#32, 0x00010000#32⟩
  pid1 := ⟨0x00008000#32, 0x03E80000#32, 0#32, 0xFFFF0000#32, 0x00010000#32⟩
  pid2 := ⟨0x00010000#32, 0x00640000#32, 0#32, 0xFFF60000#32, 0x000A0000#32⟩
  slew0 := ⟨0x07D00000#32, 0x07D00000#32⟩
  slew1 := ⟨0x07D00000#32, 0x07D00000#32⟩
  ssRise := 0x0000028F#32
  pllKp := 0x00004000#32
  pllKi := 0x00000400#32
  pllRs := 0x00008000#32
  pllLs := 0x00000021#32
  pllAlpha := 0x00004000#32
  pllWMax := 0x01F40000#32
  pllWMin := 0xFE0C0000#32
  pllIMax := 0x00320000#32
  pllIMin := 0xFFCE0000#32
  pllLowerClamp := false
  blendFeedsFoc := true
  iOcLimit := 0x00140000#32
  pwmMax := 4000#32
  svmMarkerMargin := 0#32
  stAlignTimeTicks := 3#32
  stAlignId := 0x00020000#32
  stRampIqTarget := 0x00010000#32
  stRampIqStep := 0x00004000#32
  stDthetaMax := 0x0000051E#32
  stDthetaSlew := 0x00000147#32
  stHandoffMinTicks := 2#32
  stHandoffOmegaMin := 0x00050000#32
  stHandoffEmf2Min := 0x00040000#32
  stTimeoutTicks := 6#32
  stBlendTicks := 4#32
  stIdDecayStep := 0x00002000#32
  calFullScale := 4095#32
  calDefaultSupply := 0x00034CCD#32

end Sys2Proof
end

