-- ==== Sys2Proof/Machine/FixedPoint.lean ====
section
/-! DEFINITION. The notation of 00_scope.md (R8 to R15) and the functions of the fixed-point unit (R100 to R108).
Words are read as signed integers by `toInt`; every intermediate is an exact `Int`; `sat32` brings a value back. -/

namespace Sys2Proof.Machine

/-- `MAX` of R8 as an integer. -/
def maxInt : Int := 2147483647
/-- `MIN` of R8 as an integer. -/
def minInt : Int := -2147483648

/-- `MAX` (R8). -/
def MAX : Word := 0x7FFFFFFF#32
/-- `MIN` (R8). -/
def MIN : Word := 0x80000000#32
/-- `ONE`, 1.0 (R8). -/
def ONE : Word := 0x00010000#32

/-- `sat32` (R9). -/
def sat32 (v : Int) : Word :=
  BitVec.ofInt 32 (if v > maxInt then maxInt else if v < minInt then minInt else v)

/-- `rdiv(n, d)`: the quotient rounded to the nearest integer, ties away from zero (R10). R10 defines it for `d ≠ 0`;
a division by zero returns the signed extreme, MAX for a dividend of 0 (R254, R103; DEDUCED, log 7). -/
def rdiv (n d : Int) : Int :=
  if d = 0 then (if n ≥ 0 then maxInt else minInt)
  else
    let q : Int := ((n.natAbs + d.natAbs / 2) / d.natAbs : Nat)
    if (decide (n < 0)).xor (decide (d < 0)) then -q else q

/-- `asr(v, n)` on an integer: floor(v / 2^n) (R11). -/
def asrInt (v : Int) (n : Nat) : Int := v / 2 ^ n

/-- `asr(v, n)` on a word (R11). -/
def asrWord (v : Word) (n : Nat) : Word := BitVec.ofInt 32 (asrInt v.toInt n)

/-- `neg_sat(a)` (R12). -/
def negSat (a : Word) : Word := sat32 (-a.toInt)

/-- `abs_sat(a)` (R12). -/
def absSat (a : Word) : Word := if a.toInt < 0 then sat32 (-a.toInt) else a

/-- The signed minimum of two words (R13). -/
def minW (a b : Word) : Word := if b.toInt < a.toInt then b else a

/-- The signed maximum of two words (R13). -/
def maxW (a b : Word) : Word := if b.toInt > a.toInt then b else a

/-- `clamp(v, lo, hi)`, the upper bound tested first (R13). -/
def clamp (v lo hi : Word) : Word :=
  if v.toInt > hi.toInt then hi else if v.toInt < lo.toInt then lo else v

/-- `add_sat(a, b)` (R100). -/
def addSat (a b : Word) : Word := sat32 (a.toInt + b.toInt)

/-- `sub_sat(a, b)` (R101). -/
def subSat (a b : Word) : Word := sat32 (a.toInt - b.toInt)

/-- `mul(a, b)` (R102). -/
def mul (a b : Word) : Word := sat32 (rdiv (a.toInt * b.toInt) 65536)

/-- `div(a, b)`; a zero divisor gives the extreme of the dividend's sign, MAX for 0 (R103). -/
def div (a b : Word) : Word :=
  if b.toInt = 0 then (if a.toInt ≥ 0 then MAX else MIN)
  else sat32 (rdiv (a.toInt * 65536) b.toInt)

/-- `from_int(i)` (R104). -/
def fromInt (i : Word) : Word := sat32 (i.toInt * 65536)

/-- `to_int(a)` (R105). -/
def toIntQ (a : Word) : Word := asrWord a 16

/-- `from_fraction(num, den)` (R106). -/
def fromFraction (num den : Word) : Word :=
  if den.toInt = 0 then (if num.toInt ≥ 0 then MAX else MIN)
  else sat32 (rdiv (num.toInt * 65536) den.toInt)

/-- `wrap(a)`: one correction by the span 2.0; the sums never leave the 32-bit range (R107). -/
def wrap (a : Word) : Word :=
  if a.toInt > 65536 then BitVec.ofInt 32 (a.toInt - 131072)
  else if a.toInt ≤ -65536 then BitVec.ofInt 32 (a.toInt + 131072)
  else a

/-- The shift amount of ASR: an amount outside 0..31 counts as 31 (R108). -/
def shiftAmount (n : Word) : Nat :=
  if n.toInt < 0 ∨ n.toInt > 31 then 31 else n.toInt.toNat

/-- `approach(x, target, step)` (R14). -/
def approach (x target step : Word) : Word :=
  if x.toInt < target.toInt then
    let y := addSat x step
    if y.toInt > target.toInt then target else y
  else if x.toInt > target.toInt then
    let y := subSat x step
    if y.toInt < target.toInt then target else y
  else x

/-- `mulint(f, n)`: a Q16.16 fraction times a plain integer, a plain integer (R15). -/
def mulInt (f n : Int) : Word := sat32 (rdiv (f * n) 65536)

end Sys2Proof.Machine
end

