-- ==== Sys2Proof/Machine/State.lean ====
section
/-! DEFINITION. The state of BLDC-CORE: every register of the register map (R24) in the records of R20, and the three
fields of the model's own that stand for the parameters of the step relation (R20): the configuration, the host
transactions still to come, and the word the last RD returned. There is no program counter (R22), no flag (R23), no
memory (R60) and no hidden state (R38). -/

namespace Sys2Proof.Machine

/-- The startup state of `ST_STATE` (R36). -/
inductive StState where
  | stop | align | ramp | blend | run | fail
deriving DecidableEq, Repr

/-- The six input sample registers `IN_IA` .. `IN_VBUS` (R28). -/
structure InRegs where
  ia : Word
  ib : Word
  ic : Word
  va : Word
  vb : Word
  vbus : Word
deriving DecidableEq, Repr

/-- The eleven `OUT_` and `SVM_` registers (R30, R31). -/
structure OutRegs where
  cmpA : Word
  cmpB : Word
  cmpC : Word
  marker : Word
  sector : Word
  t0 : Word
  t1 : Word
  t2 : Word
  da : Word
  db : Word
  dc : Word
deriving DecidableEq, Repr

/-- The ten `FOC_` registers (R32). -/
structure FocRegs where
  ialpha : Word
  ibeta : Word
  id : Word
  iq : Word
  vd : Word
  vq : Word
  valpha : Word
  vbeta : Word
  vbus : Word
  theta : Word
deriving DecidableEq, Repr

/-- `PIDk_INTEG` and `PIDk_PREV` of one instance (R34). -/
structure PidRegs where
  integ : Word
  prev : Word
deriving DecidableEq, Repr

/-- The eleven `PLL_` registers (R35). -/
structure PllRegs where
  theta : Word
  omega : Word
  integ : Word
  iaPrev : Word
  ibPrev : Word
  diaF : Word
  dibF : Word
  ea : Word
  eb : Word
  emag2 : Word
  err : Word
deriving DecidableEq, Repr

/-- The startup record: the six `ST_` registers (R36). -/
structure StRegs where
  state : StState
  ticks : Word
  thetaF : Word
  dtheta : Word
  iqOl : Word
  thetaBlend : Word
deriving DecidableEq, Repr

/-- The calibrator record: the four `CAL_` registers (R37). -/
structure CalRegs where
  vref : Word
  alpha : Word
  vpc : Word
  valid : Word
deriving DecidableEq, Repr

/-- What happens at the host port: the two transactions of R61 and the platform's reset event (R270). -/
inductive PortEvent where
  /-- `WR(idx, v)`. -/
  | wr (idx : PortIdx) (v : Word)
  /-- `RD(idx)`. -/
  | rd (idx : PortIdx)
  /-- `reset`. -/
  | reset
deriving DecidableEq, Repr

/-- A register of the register map (R24). -/
inductive Reg where
  | x (n : RegIdx)
  | cmd | status
  | inIa | inIb | inIc | inVa | inVb | inVbus
  | idRef | iqRef
  | outCmpA | outCmpB | outCmpC | outMarker
  | svmSector | svmT0 | svmT1 | svmT2 | svmDa | svmDb | svmDc
  | focIalpha | focIbeta | focId | focIq | focVd | focVq | focValpha | focVbeta | focVbus | focTheta
  | slewVd | slewVq | ssGain
  | pid0Integ | pid0Prev | pid1Integ | pid1Prev | pid2Integ | pid2Prev
  | pllTheta | pllOmega | pllInteg | pllIaPrev | pllIbPrev | pllDiaF | pllDibF | pllEa | pllEb | pllEmag2 | pllErr
  | stState | stTicks | stThetaF | stDtheta | stIqOl | stThetaBlend
  | calVref | calAlpha | calVpc | calValid
deriving DecidableEq, Repr

/-- Host access rights of a register: RW or RO (R24, R62). -/
inductive Access where
  | rw | ro
deriving DecidableEq, Repr

/-- The four conditions of STATUS (R27, R250). -/
inductive Cond where
  | oc | safeStop | ill | acc
deriving DecidableEq, Repr

/-- The machine's state. -/
structure State where
  /-- X0 .. X15 (R21). -/
  x : Vector Word 16
  /-- `CMD` (R25). -/
  cmd : Word
  /-- `STATUS` (R26, R27). -/
  status : Word
  /-- `IN_IA` .. `IN_VBUS` (R28). -/
  inp : InRegs
  /-- `ID_REF` (R29). -/
  idRef : Word
  /-- `IQ_REF` (R29). -/
  iqRef : Word
  /-- `OUT_CMP_A` .. `SVM_DC` (R30, R31). -/
  out : OutRegs
  /-- `FOC_IALPHA` .. `FOC_THETA` (R32). -/
  foc : FocRegs
  /-- `SLEW_VD` (R33). -/
  slewVd : Word
  /-- `SLEW_VQ` (R33). -/
  slewVq : Word
  /-- `SS_GAIN` (R33). -/
  ssGain : Word
  /-- `PID0_INTEG`, `PID0_PREV` (R34). -/
  pid0 : PidRegs
  /-- `PID1_INTEG`, `PID1_PREV` (R34). -/
  pid1 : PidRegs
  /-- `PID2_INTEG`, `PID2_PREV` (R34). -/
  pid2 : PidRegs
  /-- `PLL_THETA` .. `PLL_ERR` (R35). -/
  pll : PllRegs
  /-- `ST_STATE` .. `ST_THETA_BLEND` (R36). -/
  st : StRegs
  /-- `CAL_VREF` .. `CAL_VALID` (R37). -/
  cal : CalRegs
  /-- The model's own: the parameters of R6 this block was built with; no step changes them (R20, R6; log 2). -/
  cfg : Config
  /-- The model's own: the port events still to come, in the order of R69 (R20, R61; log 1). -/
  port : List PortEvent
  /-- The model's own: the word the last RD returned to the host, none before the first (R61; log 3). -/
  rdData : Option Word
deriving DecidableEq, Repr

/-- Why a step stops with a fault. BLDC-CORE has no such case: "every transaction has one defined outcome" (93 section
1), errors are sticky bits of STATUS (R250). So this type is closed with no constructor: nobody raises a fault. -/
inductive Fault where
deriving DecidableEq, Repr

/-- Why a step refuses an instruction. -/
inductive Refusal where
  /-- Raised by `exec` alone, for a command that has no meaning in the model yet; safe, since the machine then does
  nothing a claim could rest on. No arm of `exec` uses it: every command has its meaning. -/
  | notModelled (mnemonic : String)
deriving DecidableEq, Repr

/-- What a command and a step answer. -/
abbrev Result := Host.Outcome State Fault Refusal

/-- All outputs 0: the reset value of R39 and what `zero_outputs` writes (R191). -/
def OutRegs.zero : OutRegs := ⟨0, 0, 0, 0, 0, 0, 0, 0, 0, 0, 0⟩
/-- The FOC record at 0 (R39, R200). -/
def FocRegs.zero : FocRegs := ⟨0, 0, 0, 0, 0, 0, 0, 0, 0, 0⟩
/-- A PID record at 0 (R39, R200). -/
def PidRegs.zero : PidRegs := ⟨0, 0⟩
/-- The observer record at 0 (R39, R200). -/
def PllRegs.zero : PllRegs := ⟨0, 0, 0, 0, 0, 0, 0, 0, 0, 0, 0⟩
/-- The startup record at 0: STOP, "initial, inert" (R39, R200). -/
def StRegs.zero : StRegs := ⟨.stop, 0, 0, 0, 0, 0⟩
/-- The calibrator record at 0 (R39). -/
def CalRegs.zero : CalRegs := ⟨0, 0, 0, 0⟩
/-- The input samples at 0 (R39). -/
def InRegs.zero : InRegs := ⟨0, 0, 0, 0, 0, 0⟩

/-- The block built with the configuration `c`, right after reset: every mapped register reads 0 (R39, R271), and no
transaction has reached the port (log 1, log 3). -/
def State.resetWith (c : Config) : State where
  x := Vector.replicate 16 0
  cmd := 0
  status := 0
  inp := .zero
  idRef := 0
  iqRef := 0
  out := .zero
  foc := .zero
  slewVd := 0
  slewVq := 0
  ssGain := 0
  pid0 := .zero
  pid1 := .zero
  pid2 := .zero
  pll := .zero
  st := .zero
  cal := .zero
  cfg := c
  port := []
  rdData := none

/-- The machine right after reset (R270, R271); its configuration is open (log 2). -/
def State.reset : State := State.resetWith Config.built

end Sys2Proof.Machine
end

