-- ==== Sys2Proof/Machine/Operands.lean ====
section
/-! DEFINITION. The operand forms of the command word: source and destination general registers (R81, R86, R87). No
general register is hard-wired (R21), and there is no immediate (R86). -/

namespace Sys2Proof.Machine

/-- `x[n]`: the content of general register Xn (R16, R21). -/
def State.getX (s : State) (n : RegIdx) : Word := s.x[n.toNat]'n.isLt

/-- `x[n] <- v` (R16, R21). -/
def State.setX (s : State) (n : RegIdx) (v : Word) : State :=
  { s with x := s.x.set n.toNat v n.isLt }

/-- Two destinations: rd, then rd2, the later write wins (R87). -/
def State.setX2 (s : State) (rd rd2 : RegIdx) (v v2 : Word) : State :=
  (s.setX rd v).setX rd2 v2

/-- Three destinations: rd, then rd2, then rd3, the later write wins (R87). -/
def State.setX3 (s : State) (rd rd2 rd3 : RegIdx) (v v2 v3 : Word) : State :=
  ((s.setX rd v).setX rd2 v2).setX rd3 v3

/-- A truth-value operand is false when the word is 0 and true otherwise (R86). -/
def truthOf (v : Word) : Bool := v != 0

end Sys2Proof.Machine
end

