-- ==== Sys2Proof/Machine/Calibrator.lean ====
section
/-! DEFINITION. The ADC voltage calibrator (47_adc_calibrator.md). -/

namespace Sys2Proof.Machine

/-- The nominal volts-per-count: the default supply spread over the full scale (R230). -/
def calNominal (c : Config) : Word := sat32 (rdiv c.calDefaultSupply.toInt c.calFullScale.toInt)

/-- The instantaneous volts-per-count of a positive count (R231). -/
def calInstant (c : Config) (vref raw : Word) : Word :=
  sat32 (rdiv (rdiv (vref.toInt * c.calFullScale.toInt) raw.toInt) c.calFullScale.toInt)

/-- The calibrator record after `update(raw)`; a non-positive count changes nothing (R231). -/
def calUpdate (c : Config) (r : CalRegs) (raw : Word) : CalRegs :=
  if raw.toInt ≤ 0 then r
  else
    { r with
      vpc := addSat (mul (subSat ONE r.alpha) r.vpc) (mul r.alpha (calInstant c r.vref raw))
      valid := 1 }

/-- CALINIT (R230). -/
def execCalinit (rs1 rs2 : RegIdx) (s : State) : Result :=
  .next { s with cal := ⟨s.getX rs1, s.getX rs2, calNominal s.cfg, 0⟩ }

/-- CALUPD (R231). -/
def execCalupd (rs1 : RegIdx) (s : State) : Result :=
  .next { s with cal := calUpdate s.cfg s.cal (s.getX rs1) }

end Sys2Proof.Machine
end

