-- ==== Sys2Proof/Machine/Cordic.lean ====
section
/-! DEFINITION. The CORDIC sine/cosine engine and SINCOS (41_cordic_sincos.md). -/

namespace Sys2Proof.Machine

/-- The quadrant flip that R132 applied. -/
inductive Flip where
  | none | plus | minus
deriving DecidableEq, Repr

/-- The vector and residual angle of the rotation (R133). -/
structure CordicVec where
  x : Word
  y : Word
  z : Word
deriving DecidableEq, Repr

/-- Reduction modulo one turn: `t` in (-0.5, 0.5] (R131). -/
def reduceTurn (a : Word) : Int :=
  let u : Int := (a &&& 0x0000FFFF#32).toNat
  if u > 32768 then u - 65536 else u

/-- The quadrant flip: the reduced angle `phi` and the flip applied (R132). -/
def quadrantFlip (t : Int) : Int × Flip :=
  if t > 16384 then (t - 16384, .plus)
  else if t ≤ -16384 then (t + 16384, .minus)
  else (t, .none)

/-- Iteration `i` with rotation angle `atan`: three simultaneous updates, the direction by the sign of `z` (R133). -/
def cordicIter (i : Nat) (atan : Word) (v : CordicVec) : CordicVec :=
  let xs := asrInt v.x.toInt i
  let ys := asrInt v.y.toInt i
  if v.z.toInt ≥ 0 then
    ⟨sat32 (v.x.toInt - ys), sat32 (v.y.toInt + xs), sat32 (v.z.toInt - atan.toInt)⟩
  else
    ⟨sat32 (v.x.toInt + ys), sat32 (v.y.toInt - xs), sat32 (v.z.toInt + atan.toInt)⟩

/-- The iterations from number `i` on, one for each entry of the table (R133). -/
def cordicRun : Nat → List Word → CordicVec → CordicVec
  | _, [], v => v
  | i, atan :: rest, v => cordicRun (i + 1) rest (cordicIter i atan v)

/-- The rotation of the reduced angle: (x, y) approximate (cos, sin); `phi = 0` is exact (R133). -/
def cordicRotate (c : Config) (phi : Int) : Word × Word :=
  if phi = 0 then (ONE, 0)
  else
    let v := cordicRun 0 c.cordicAtan.toList ⟨c.cordicK, 0, BitVec.ofInt 32 phi⟩
    (v.x, v.y)

/-- The un-rotation: the pair (sine, cosine) (R134). -/
def unrotate (flip : Flip) (x y : Word) : Word × Word :=
  match flip with
  | .none => (y, x)
  | .plus => (x, negSat y)
  | .minus => (negSat x, y)

/-- `sincos(a)`: the composition of R131 to R134, a pure function of the angle and the parameters (R136). The pair is
(sine, cosine). -/
def sincos (c : Config) (a : Word) : Word × Word :=
  let p := quadrantFlip (reduceTurn a)
  let r := cordicRotate c p.1
  unrotate p.2 r.1 r.2

/-- SINCOS: sine to `rd`, then cosine to `rd2` (R130). -/
def execSincos (rd rd2 rs1 : RegIdx) (s : State) : Result :=
  let p := sincos s.cfg (s.getX rs1)
  .next (s.setX2 rd rd2 p.1 p.2)

end Sys2Proof.Machine
end

