-- ==== Sys2Proof/Machine/Regulators.lean ====
section
/-! DEFINITION. The PID regulator, the slew limiter and the soft-start, with their commands
(43_pid_slew_softstart.md). -/

namespace Sys2Proof.Machine

/-- The derivative term of `pid`: the negated change of the measurement over the time step, scaled; 0 for a zero time
step (R150). -/
def pidDeriv (c : PidCfg) (r : PidRegs) (meas dt : Word) : Word :=
  if dt.toInt = 0 then 0 else mul c.kd (div (negSat (subSat meas r.prev)) dt)

/-- The integral candidate of `pid`; the prior integrator for a zero time step (R150). -/
def pidCandidate (c : PidCfg) (r : PidRegs) (sp meas dt : Word) : Word :=
  if dt.toInt = 0 then r.integ else addSat r.integ (mul (mul (subSat sp meas) c.ki) dt)

/-- `pid(k, sp, meas, dt)` over the parameters and registers of one instance: the clamped output and the registers
after it (R150). -/
def pid (c : PidCfg) (r : PidRegs) (sp meas dt : Word) : Word × PidRegs :=
  let p := mul c.kp (subSat sp meas)
  let d := pidDeriv c r meas dt
  let icand := pidCandidate c r sp meas dt
  let pre := addSat (addSat p d) r.integ
  let u := addSat (addSat p d) icand
  if u.toInt > c.outMax.toInt then
    (c.outMax, ⟨if pre.toInt < c.outMax.toInt then icand else r.integ, meas⟩)
  else if u.toInt < c.outMin.toInt then
    (c.outMin, ⟨if pre.toInt > c.outMin.toInt then icand else r.integ, meas⟩)
  else (u, ⟨icand, meas⟩)

/-- The step a limiter may take: rate times time step, a negative product counting as 0 (R153). -/
def slewBound (rate dt : Word) : Word := maxW 0 (mul rate dt)

/-- `slew(j, prev, target, dt)` over one pair of rates (R153). -/
def slew (c : SlewCfg) (prev target dt : Word) : Word :=
  let d := subSat target prev
  if d.toInt > 0 then
    let step := slewBound c.up dt
    if d.toInt ≤ step.toInt then target else addSat prev step
  else if d.toInt < 0 then
    let step := slewBound c.dn dt
    if (negSat d).toInt ≤ step.toInt then target else subSat prev step
  else target

/-- `sstep(enable, dt)`: the new gain from the rise time and the gain before (R156). -/
def softStart (ssRise gain : Word) (enable : Bool) (dt : Word) : Word :=
  if !enable then 0
  else if ssRise.toInt ≤ 0 then ONE
  else clamp (addSat gain (div dt ssRise)) 0 ONE

/-- PID0, the d axis (R151). -/
def execPid0 (rd rs1 rs2 rs3 : RegIdx) (s : State) : Result :=
  let p := pid s.cfg.pid0 s.pid0 (s.getX rs1) (s.getX rs2) (s.getX rs3)
  .next ({ s with pid0 := p.2 }.setX rd p.1)

/-- PID1, the q axis (R151). -/
def execPid1 (rd rs1 rs2 rs3 : RegIdx) (s : State) : Result :=
  let p := pid s.cfg.pid1 s.pid1 (s.getX rs1) (s.getX rs2) (s.getX rs3)
  .next ({ s with pid1 := p.2 }.setX rd p.1)

/-- PID2, the speed axis (R151). -/
def execPid2 (rd rs1 rs2 rs3 : RegIdx) (s : State) : Result :=
  let p := pid s.cfg.pid2 s.pid2 (s.getX rs1) (s.getX rs2) (s.getX rs3)
  .next ({ s with pid2 := p.2 }.setX rd p.1)

/-- SLEWD, the rates of the d axis; stateless (R154). -/
def execSlewd (rd rs1 rs2 rs3 : RegIdx) (s : State) : Result :=
  .next (s.setX rd (slew s.cfg.slew0 (s.getX rs1) (s.getX rs2) (s.getX rs3)))

/-- SLEWQ, the rates of the q axis; stateless (R154). -/
def execSlewq (rd rs1 rs2 rs3 : RegIdx) (s : State) : Result :=
  .next (s.setX rd (slew s.cfg.slew1 (s.getX rs1) (s.getX rs2) (s.getX rs3)))

/-- SSTEP (R157). -/
def execSstep (rd rs1 rs2 : RegIdx) (s : State) : Result :=
  let g := softStart s.cfg.ssRise s.ssGain (truthOf (s.getX rs1)) (s.getX rs2)
  .next ({ s with ssGain := g }.setX rd g)

end Sys2Proof.Machine
end

