-- ==== Sys2Proof/Machine/Transforms.lean ====
section
/-! DEFINITION. The Clarke and Park transforms and their inverses (42_transforms.md). -/

namespace Sys2Proof.Machine

/-- `INV_SQRT3` (R140). -/
def INV_SQRT3 : Word := 0x000093CD#32

/-- `SQRT3_2` (R141). -/
def SQRT3_2 : Word := 0x0000DDB4#32

/-- `clarke(a, b)`: (alpha, beta) (R140). -/
def clarke (a b : Word) : Word × Word :=
  (a, mul (addSat a (addSat b b)) INV_SQRT3)

/-- `iclarke(al, be)`: the phases (a, b, c) (R141). -/
def iclarke (al be : Word) : Word × Word × Word :=
  let h := asrWord al 1
  let t := mul be SQRT3_2
  (al, subSat t h, negSat (addSat h t))

/-- `park_sc(al, be, s, c)`: (d, q) (R142). -/
def parkSc (al be sn cs : Word) : Word × Word :=
  (addSat (mul al cs) (mul be sn), subSat (mul be cs) (mul al sn))

/-- `ipark_sc(d, q, s, c)`: (alpha, beta) (R143). -/
def iparkSc (d q sn cs : Word) : Word × Word :=
  (subSat (mul d cs) (mul q sn), addSat (mul d sn) (mul q cs))

/-- CLARKE (R140). -/
def execClarke (rd rd2 rs1 rs2 : RegIdx) (s : State) : Result :=
  let p := clarke (s.getX rs1) (s.getX rs2)
  .next (s.setX2 rd rd2 p.1 p.2)

/-- ICLARKE (R141). -/
def execIclarke (rd rd2 rd3 rs1 rs2 : RegIdx) (s : State) : Result :=
  let p := iclarke (s.getX rs1) (s.getX rs2)
  .next (s.setX3 rd rd2 rd3 p.1 p.2.1 p.2.2)

/-- PARK (R142). -/
def execPark (rd rd2 rs1 rs2 rs3 : RegIdx) (s : State) : Result :=
  let sc := sincos s.cfg (s.getX rs3)
  let p := parkSc (s.getX rs1) (s.getX rs2) sc.1 sc.2
  .next (s.setX2 rd rd2 p.1 p.2)

/-- IPARK (R143). -/
def execIpark (rd rd2 rs1 rs2 rs3 : RegIdx) (s : State) : Result :=
  let sc := sincos s.cfg (s.getX rs3)
  let p := iparkSc (s.getX rs1) (s.getX rs2) sc.1 sc.2
  .next (s.setX2 rd rd2 p.1 p.2)

end Sys2Proof.Machine
end

