-- ==== Sys2Proof/Machine/Foc.lean ====
section
/-! DEFINITION. The FOC current-loop step and the space-vector PWM calculator (45_foc_svpwm.md). -/

namespace Sys2Proof.Machine

/-- `focstep(ia, ib, theta)`: the state after the step; its result is `FOC_VALPHA`, `FOC_VBETA` of that state (R180).
One sine/cosine pair serves both Park transforms (R144). -/
def focStep (s : State) (ia ib theta : Word) : State :=
  let c := s.cfg
  let iab := clarke ia ib
  let sc := sincos c theta
  let idq := parkSc iab.1 iab.2 sc.1 sc.2
  let pd := pid c.pid0 s.pid0 s.idRef idq.1 c.ts
  let pq := pid c.pid1 s.pid1 s.iqRef idq.2 c.ts
  let vd := slew c.slew0 s.slewVd pd.1 c.ts
  let vqs := slew c.slew1 s.slewVq pq.1 c.ts
  let g := softStart c.ssRise s.ssGain true c.ts
  let vq := mul g vqs
  let vab := iparkSc vd vq sc.1 sc.2
  { s with
    pid0 := pd.2
    pid1 := pq.2
    slewVd := vd
    slewVq := vqs
    ssGain := g
    foc :=
      { s.foc with
        ialpha := iab.1
        ibeta := iab.2
        id := idq.1
        iq := idq.2
        vd := vd
        vq := vq
        valpha := vab.1
        vbeta := vab.2
        theta := theta } }

/-- The sector lookup `SECTOR_LUT` by sign code (R186). -/
def sectorOfCode : Nat → Word
  | 0 => 1
  | 1 => 1
  | 2 => 3
  | 3 => 2
  | 4 => 5
  | 5 => 6
  | 6 => 4
  | _ => 1

/-- The sector from the sign pattern of the three phase values; 0 counts as not positive (R186). -/
def sector (va vb vc : Word) : Word :=
  sectorOfCode ((if va.toInt > 0 then 1 else 0) + (if vb.toInt > 0 then 2 else 0) + (if vc.toInt > 0 then 4 else 0))

/-- The duty of one phase: its value shifted by the minimum `m`, centred by `off`, clipped to [0, ONE] (R187). -/
def duty (v m off : Word) : Word := clamp (addSat (subSat v m) off) 0 ONE

/-- The centred duty fractions (a, b, c) of three phase values (R187). -/
def duties (va vb vc : Word) : Word × Word × Word :=
  let m := minW (minW va vb) vc
  let span := maxW (maxW (subSat va m) (subSat vb m)) (subSat vc m)
  let span1 := if span.toInt > ONE.toInt then ONE else span
  let off := asrWord (subSat ONE span1) 1
  (duty va m off, duty vb m off, duty vc m off)

/-- The largest of three integers. -/
def max3 (a b c : Int) : Int := max (max a b) c

/-- The smallest of three integers. -/
def min3 (a b c : Int) : Int := min (min a b) c

/-- The vector times (T0, T1, T2) of three duties: `hi - mid`, `mid - lo` and the remainder of ONE (R188). The middle
of the sorted values is the sum without the largest and the smallest. -/
def vectorTimes (da db dc : Int) : Int × Int × Int :=
  let lo := min3 da db dc
  let hi := max3 da db dc
  let mid := da + db + dc - lo - hi
  (65536 - (hi - mid) - (mid - lo), hi - mid, mid - lo)

/-- The sample marker as a fraction of the carrier period (R190). -/
def markerFraction (t0 t1 t2 : Int) : Int :=
  if t1 ≥ t2 then asrInt (t0 + t1) 1 else asrInt t0 1 + t1 + asrInt t2 1

/-- `svpwm(al, be)`: the eleven `OUT_` and `SVM_` registers (R185 to R190). -/
def svpwm (c : Config) (al be : Word) : OutRegs :=
  let v := iclarke al be
  let d := duties v.1 v.2.1 v.2.2
  let t := vectorTimes d.1.toInt d.2.1.toInt d.2.2.toInt
  { cmpA := mulInt d.1.toInt c.pwmMax.toInt
    cmpB := mulInt d.2.1.toInt c.pwmMax.toInt
    cmpC := mulInt d.2.2.toInt c.pwmMax.toInt
    marker := mulInt (markerFraction t.1 t.2.1 t.2.2) c.pwmMax.toInt
    sector := sector v.1 v.2.1 v.2.2
    t0 := BitVec.ofInt 32 t.1
    t1 := BitVec.ofInt 32 t.2.1
    t2 := BitVec.ofInt 32 t.2.2
    da := d.1
    db := d.2.1
    dc := d.2.2 }

/-- FOCSTEP: v alpha to `rd`, then v beta to `rd2` (R181). -/
def execFocstep (rd rd2 rs1 rs2 rs3 : RegIdx) (s : State) : Result :=
  let t := focStep s (s.getX rs1) (s.getX rs2) (s.getX rs3)
  .next (t.setX2 rd rd2 t.foc.valpha t.foc.vbeta)

/-- SVPWM: in any startup state, whatever STATUS says (R192, R266; log 10). -/
def execSvpwm (rs1 rs2 : RegIdx) (s : State) : Result :=
  .next { s with out := svpwm s.cfg (s.getX rs1) (s.getX rs2) }

end Sys2Proof.Machine
end

