-- ==== Sys2Proof/Machine/Kernel.lean ====
section
/-! DEFINITION. The nine commands of the fixed-point unit (40_fixed_point_kernel.md). Each reads its source general
registers, computes and writes `rd`; it touches no named register and raises no condition (R109). -/

namespace Sys2Proof.Machine

/-- ADD (R100). -/
def execAdd (rd rs1 rs2 : RegIdx) (s : State) : Result :=
  .next (s.setX rd (addSat (s.getX rs1) (s.getX rs2)))

/-- SUB (R101). -/
def execSub (rd rs1 rs2 : RegIdx) (s : State) : Result :=
  .next (s.setX rd (subSat (s.getX rs1) (s.getX rs2)))

/-- MUL (R102). -/
def execMul (rd rs1 rs2 : RegIdx) (s : State) : Result :=
  .next (s.setX rd (mul (s.getX rs1) (s.getX rs2)))

/-- DIV (R103). -/
def execDiv (rd rs1 rs2 : RegIdx) (s : State) : Result :=
  .next (s.setX rd (div (s.getX rs1) (s.getX rs2)))

/-- FROMINT (R104). -/
def execFromint (rd rs1 : RegIdx) (s : State) : Result :=
  .next (s.setX rd (fromInt (s.getX rs1)))

/-- TOINT (R105). -/
def execToint (rd rs1 : RegIdx) (s : State) : Result :=
  .next (s.setX rd (toIntQ (s.getX rs1)))

/-- FROMFRAC (R106). -/
def execFromfrac (rd rs1 rs2 : RegIdx) (s : State) : Result :=
  .next (s.setX rd (fromFraction (s.getX rs1) (s.getX rs2)))

/-- WRAP (R107). -/
def execWrap (rd rs1 : RegIdx) (s : State) : Result :=
  .next (s.setX rd (wrap (s.getX rs1)))

/-- ASR (R108). -/
def execAsr (rd rs1 rs2 : RegIdx) (s : State) : Result :=
  .next (s.setX rd (asrWord (s.getX rs1) (shiftAmount (s.getX rs2))))

end Sys2Proof.Machine
end

