-- ==== Sys2Proof/Machine/Observer.lean ====
section
/-! DEFINITION. The back-EMF observer and PLLSTEP (44_pll_observer.md). -/

namespace Sys2Proof.Machine

/-- The first-order low-pass of a current derivative: `(1 - alpha) * old + alpha * new` (R170, step 2). -/
def pllFilter (c : Config) (old new : Word) : Word :=
  addSat (mul (subSat ONE c.pllAlpha) old) (mul c.pllAlpha new)

/-- The back-EMF of one axis: `v - (Rs i + Ls di/dt)` (R170, step 3). -/
def pllEmf (c : Config) (v i di : Word) : Word :=
  subSat v (addSat (mul c.pllRs i) (mul c.pllLs di))

/-- The speed bounds: the upper always, the lower if `P_PLL_LOWER_CLAMP` (R170, step 6; R172). -/
def pllSpeedClamp (c : Config) (w : Word) : Word :=
  let w1 := if w.toInt > c.pllWMax.toInt then c.pllWMax else w
  if c.pllLowerClamp && decide (w1.toInt < c.pllWMin.toInt) then c.pllWMin else w1

/-- `pllstep(va, vb, ia, ib)`: the observer record after the step. It returns `omega` and `emag2` of that record and
leaves `theta` (R170, R173). -/
def pllStep (c : Config) (p : PllRegs) (va vb ia ib : Word) : PllRegs :=
  let da := div (subSat ia p.iaPrev) c.ts
  let db := div (subSat ib p.ibPrev) c.ts
  let diaF := pllFilter c p.diaF da
  let dibF := pllFilter c p.dibF db
  let ea := pllEmf c va ia diaF
  let eb := pllEmf c vb ib dibF
  let sc := sincos c p.theta
  let err := addSat (mul (negSat sc.1) ea) (mul sc.2 eb)
  let integ := clamp (addSat p.integ (mul c.pllKi err)) c.pllIMin c.pllIMax
  let w := pllSpeedClamp c (addSat p.omega (addSat (mul c.pllKp err) integ))
  { theta := p.theta
    omega := w
    integ := integ
    iaPrev := ia
    ibPrev := ib
    diaF := diaF
    dibF := dibF
    ea := ea
    eb := eb
    emag2 := addSat (mul ea ea) (mul eb eb)
    err := err }

/-- PLLSTEP: speed to `rd`, then squared back-EMF to `rd2` (R171). -/
def execPllstep (rd rd2 rs1 rs2 rs3 rs4 : RegIdx) (s : State) : Result :=
  let p := pllStep s.cfg s.pll (s.getX rs1) (s.getX rs2) (s.getX rs3) (s.getX rs4)
  .next ({ s with pll := p }.setX2 rd rd2 p.omega p.emag2)

end Sys2Proof.Machine
end

