-- ==== Sys2Proof/Machine/Flags.lean ====
section
/-! DEFINITION. The machine has no arithmetic flags (R23). The flag-like state is the four sticky bits of STATUS
(R26, R27): their places, and the setting and clearing of them. -/

namespace Sys2Proof.Machine

/-- The bit of STATUS a condition names (R27). -/
def Cond.mask : Cond → Word
  | .oc => 1#32
  | .safeStop => 2#32
  | .ill => 4#32
  | .acc => 8#32

/-- Whether the bit of a condition is 1 in a STATUS word (R27). -/
def statusBit (status : Word) (c : Cond) : Bool := status &&& c.mask != 0

/-- `STATUS.<c> <- 1` (R27, R250). -/
def setBit (status : Word) (c : Cond) : Word := status ||| c.mask

/-- `STATUS.<c> <- 0` (R27). -/
def clearBit (status : Word) (c : Cond) : Word := status &&& ~~~ c.mask

end Sys2Proof.Machine
end

