-- ==== Sys2Proof/Machine/Ops.lean ====
section
/-! DEFINITION. The register space (R24, R60 to R66): the map from index to register, the access rights, the reading
and storing of a register; and the operations shared by several commands: raising a condition (R250), zeroing the
outputs (R191), re-initialisation (R200), the entry to and the return from the two faults (R211, R214, R201). -/

namespace Sys2Proof.Machine

/-- The register at a word index, none where the index is unmapped (R24, R66). -/
def Reg.ofIndex (i : PortIdx) : Option Reg :=
  match i.toNat with
  | 0x10 => some .cmd
  | 0x11 => some .status
  | 0x18 => some .inIa
  | 0x19 => some .inIb
  | 0x1A => some .inIc
  | 0x1B => some .inVa
  | 0x1C => some .inVb
  | 0x1D => some .inVbus
  | 0x1E => some .idRef
  | 0x1F => some .iqRef
  | 0x20 => some .outCmpA
  | 0x21 => some .outCmpB
  | 0x22 => some .outCmpC
  | 0x23 => some .outMarker
  | 0x24 => some .svmSector
  | 0x25 => some .svmT0
  | 0x26 => some .svmT1
  | 0x27 => some .svmT2
  | 0x28 => some .svmDa
  | 0x29 => some .svmDb
  | 0x2A => some .svmDc
  | 0x30 => some .focIalpha
  | 0x31 => some .focIbeta
  | 0x32 => some .focId
  | 0x33 => some .focIq
  | 0x34 => some .focVd
  | 0x35 => some .focVq
  | 0x36 => some .focValpha
  | 0x37 => some .focVbeta
  | 0x38 => some .focVbus
  | 0x39 => some .focTheta
  | 0x3A => some .slewVd
  | 0x3B => some .slewVq
  | 0x3C => some .ssGain
  | 0x40 => some .pid0Integ
  | 0x41 => some .pid0Prev
  | 0x42 => some .pid1Integ
  | 0x43 => some .pid1Prev
  | 0x44 => some .pid2Integ
  | 0x45 => some .pid2Prev
  | 0x50 => some .pllTheta
  | 0x51 => some .pllOmega
  | 0x52 => some .pllInteg
  | 0x53 => some .pllIaPrev
  | 0x54 => some .pllIbPrev
  | 0x55 => some .pllDiaF
  | 0x56 => some .pllDibF
  | 0x57 => some .pllEa
  | 0x58 => some .pllEb
  | 0x59 => some .pllEmag2
  | 0x5A => some .pllErr
  | 0x60 => some .stState
  | 0x61 => some .stTicks
  | 0x62 => some .stThetaF
  | 0x63 => some .stDtheta
  | 0x64 => some .stIqOl
  | 0x65 => some .stThetaBlend
  | 0x70 => some .calVref
  | 0x71 => some .calAlpha
  | 0x72 => some .calVpc
  | 0x73 => some .calValid
  | n => if n < 16 then some (.x (BitVec.ofNat 4 n)) else none

/-- The host's access to a register: RW for X0..X15, CMD, the `IN_` registers and the two references, RO for the
rest (R24). -/
def Reg.access : Reg → Access
  | .x _ | .cmd | .inIa | .inIb | .inIc | .inVa | .inVb | .inVbus | .idRef | .iqRef => .rw
  | _ => .ro

/-- The code of a startup state in `ST_STATE` (R36). -/
def StState.code : StState → Word
  | .stop => 0
  | .align => 1
  | .ramp => 2
  | .blend => 3
  | .run => 4
  | .fail => 5

/-- `R[idx]` read: the word a register holds (R16, R24). -/
def State.get (s : State) : Reg → Word
  | .x n => s.getX n
  | .cmd => s.cmd
  | .status => s.status
  | .inIa => s.inp.ia
  | .inIb => s.inp.ib
  | .inIc => s.inp.ic
  | .inVa => s.inp.va
  | .inVb => s.inp.vb
  | .inVbus => s.inp.vbus
  | .idRef => s.idRef
  | .iqRef => s.iqRef
  | .outCmpA => s.out.cmpA
  | .outCmpB => s.out.cmpB
  | .outCmpC => s.out.cmpC
  | .outMarker => s.out.marker
  | .svmSector => s.out.sector
  | .svmT0 => s.out.t0
  | .svmT1 => s.out.t1
  | .svmT2 => s.out.t2
  | .svmDa => s.out.da
  | .svmDb => s.out.db
  | .svmDc => s.out.dc
  | .focIalpha => s.foc.ialpha
  | .focIbeta => s.foc.ibeta
  | .focId => s.foc.id
  | .focIq => s.foc.iq
  | .focVd => s.foc.vd
  | .focVq => s.foc.vq
  | .focValpha => s.foc.valpha
  | .focVbeta => s.foc.vbeta
  | .focVbus => s.foc.vbus
  | .focTheta => s.foc.theta
  | .slewVd => s.slewVd
  | .slewVq => s.slewVq
  | .ssGain => s.ssGain
  | .pid0Integ => s.pid0.integ
  | .pid0Prev => s.pid0.prev
  | .pid1Integ => s.pid1.integ
  | .pid1Prev => s.pid1.prev
  | .pid2Integ => s.pid2.integ
  | .pid2Prev => s.pid2.prev
  | .pllTheta => s.pll.theta
  | .pllOmega => s.pll.omega
  | .pllInteg => s.pll.integ
  | .pllIaPrev => s.pll.iaPrev
  | .pllIbPrev => s.pll.ibPrev
  | .pllDiaF => s.pll.diaF
  | .pllDibF => s.pll.dibF
  | .pllEa => s.pll.ea
  | .pllEb => s.pll.eb
  | .pllEmag2 => s.pll.emag2
  | .pllErr => s.pll.err
  | .stState => s.st.state.code
  | .stTicks => s.st.ticks
  | .stThetaF => s.st.thetaF
  | .stDtheta => s.st.dtheta
  | .stIqOl => s.st.iqOl
  | .stThetaBlend => s.st.thetaBlend
  | .calVref => s.cal.vref
  | .calAlpha => s.cal.alpha
  | .calVpc => s.cal.vpc
  | .calValid => s.cal.valid

/-- The host's store into an RW register: any 32-bit value, unchanged (R62). A register the host may not write keeps
its value (R62). -/
def State.hostStore (s : State) (r : Reg) (v : Word) : State :=
  match r with
  | .x n => s.setX n v
  | .cmd => { s with cmd := v }
  | .inIa => { s with inp := { s.inp with ia := v } }
  | .inIb => { s with inp := { s.inp with ib := v } }
  | .inIc => { s with inp := { s.inp with ic := v } }
  | .inVa => { s with inp := { s.inp with va := v } }
  | .inVb => { s with inp := { s.inp with vb := v } }
  | .inVbus => { s with inp := { s.inp with vbus := v } }
  | .idRef => { s with idRef := v }
  | .iqRef => { s with iqRef := v }
  | _ => s

/-- `raise <Condition>`: set its sticky bit, no other state change; nothing is saved and no control flow is redirected
(R250). This machine's only exception entry. -/
def State.raise (s : State) (c : Cond) : State := { s with status := setBit s.status c }

/-- `STATUS.<c> <- 0`. -/
def State.clear (s : State) (c : Cond) : State := { s with status := clearBit s.status c }

/-- `zero_outputs()`: the eleven `OUT_` and `SVM_` registers to 0 (R191). -/
def State.zeroOutputs (s : State) : State := { s with out := .zero }

/-- `reinit()`: every register of index 0x1E .. 0x65 to 0 (R200). -/
def State.reinit (s : State) : State :=
  { s with
    idRef := 0
    iqRef := 0
    out := .zero
    foc := .zero
    slewVd := 0
    slewVq := 0
    ssGain := 0
    pid0 := .zero
    pid1 := .zero
    pid2 := .zero
    pll := .zero
    st := .zero }

/-- The entry to the over-current fault: `reinit()`, then OC and SAFE_STOP set (R211, R255). -/
def State.overCurrentEntry (s : State) : State := (s.reinit.raise .oc).raise .safeStop

/-- The safe stop of FAIL inside a tick: outputs 0, SAFE_STOP set (R213, R214). -/
def State.safeStopEntry (s : State) : State := s.zeroOutputs.raise .safeStop

/-- `stinit()`: the one return from both faults. `reinit()`, state ALIGN, `ID_REF` preset, OC and SAFE_STOP cleared
(R201, R257). -/
def State.stinit (s : State) : State :=
  let r := s.reinit
  ({ r with st := { r.st with state := .align }, idRef := r.cfg.stAlignId }.clear .oc).clear .safeStop

end Sys2Proof.Machine
end

