-- ==== Sys2Proof/Machine/Startup.lean ====
section
/-! DEFINITION. The startup machine, the control tick and the re-initialisation commands (46_startup_tick.md). -/

namespace Sys2Proof.Machine

/-- `inc_ticks()`: a 32-bit unsigned counter that sticks at the top (R202). -/
def incTicks (t : Word) : Word := if t.toNat < 4294967295 then BitVec.ofNat 32 (t.toNat + 1) else t

/-- The update in ALIGN (R203). -/
def stAlign (s : State) : State :=
  let n := incTicks s.st.ticks
  let done := decide (n.toNat ≥ s.cfg.stAlignTimeTicks.toNat)
  { s with
    idRef := s.cfg.stAlignId
    iqRef := 0
    st :=
      { s.st with
        thetaF := 0
        state := if done then .ramp else .align
        ticks := if done then 0 else n } }

/-- The plausibility signal of the handoff: the speed magnitude or the squared back-EMF exceeds its threshold
(R204). -/
def handoffSignal (c : Config) (w emag2 : Word) : Bool :=
  decide ((absSat w).toInt > c.stHandoffOmegaMin.toInt) || decide (emag2.toInt > c.stHandoffEmf2Min.toInt)

/-- The update in RAMP: the handoff is tested before the timeout (R204). -/
def stRamp (s : State) (w emag2 : Word) : State :=
  let c := s.cfg
  let iqOl := approach s.st.iqOl c.stRampIqTarget c.stRampIqStep
  let dtheta := approach s.st.dtheta c.stDthetaMax c.stDthetaSlew
  let thetaF := wrap (addSat s.st.thetaF dtheta)
  let n := incTicks s.st.ticks
  let st1 : StRegs := { s.st with iqOl := iqOl, dtheta := dtheta, thetaF := thetaF, ticks := n }
  if decide (n.toNat ≥ c.stHandoffMinTicks.toNat) && handoffSignal c w emag2 then
    { s with
      idRef := asrWord c.stAlignId 2
      iqRef := iqOl
      st := { st1 with state := .blend, ticks := 0, thetaBlend := thetaF } }
  else if n.toNat ≥ c.stTimeoutTicks.toNat then
    { s with idRef := 0, iqRef := 0, st := { st1 with state := .fail } }
  else
    { s with idRef := asrWord c.stAlignId 2, iqRef := iqOl, st := st1 }

/-- The blend weight `min(ONE, from_fraction(ticks, ST_BLEND_TICKS))` (R205). -/
def blendWeight (c : Config) (ticks : Word) : Word := minW ONE (fromFraction ticks c.stBlendTicks)

/-- The update in BLEND (R205). `IQ_REF` is overwritten with its last RAMP value, `ST_IQ_OL`, so that a host write to
it does not last (R29; log 13). -/
def stBlend (s : State) (thObs : Word) : State :=
  let c := s.cfg
  let thetaF := wrap (addSat s.st.thetaF s.st.dtheta)
  let n := incTicks s.st.ticks
  let wb := blendWeight c n
  let done := decide (n.toNat ≥ c.stBlendTicks.toNat)
  { s with
    idRef := approach s.idRef 0 c.stIdDecayStep
    iqRef := s.st.iqOl
    st :=
      { s.st with
        thetaF := thetaF
        ticks := n
        thetaBlend := wrap (addSat (mul (subSat ONE wb) thetaF) (mul wb thObs))
        state := if done then .run else .blend } }

/-- The update of `sttick` by the state on entry: STOP and RUN change nothing (R202, R206), FAIL forces both
references to 0 (R207). -/
def stUpdate (s : State) (w emag2 thObs : Word) : State :=
  match s.st.state with
  | .stop => s
  | .align => stAlign s
  | .ramp => stRamp s w emag2
  | .blend => stBlend s thObs
  | .run => s
  | .fail => { s with idRef := 0, iqRef := 0 }

/-- The angle the current loop is to use, by the state after the update (R209). -/
def angleSelect (s : State) (thObs : Word) : Word :=
  match s.st.state with
  | .align | .ramp => s.st.thetaF
  | .blend => if s.cfg.blendFeedsFoc then s.st.thetaBlend else thObs
  | .run => thObs
  | .stop | .fail => 0

/-- The over-current test: the magnitude of any phase current exceeds the limit (R211). -/
def overCurrent (c : Config) (i : InRegs) : Bool :=
  decide ((absSat i.ia).toInt > c.iOcLimit.toInt) || decide ((absSat i.ib).toInt > c.iOcLimit.toInt) ||
    decide ((absSat i.ic).toInt > c.iOcLimit.toInt)

/-- The first half of the pipeline: bus voltage, observer, angle advance (R212, R173). -/
def tickObserve (s : State) : State :=
  let i := clarke s.inp.ia s.inp.ib
  let v := clarke s.inp.va s.inp.vb
  let p := pllStep s.cfg s.pll v.1 v.2 i.1 i.2
  { s with
    foc := { s.foc with vbus := s.inp.vbus }
    pll := { p with theta := wrap (addSat p.theta (mul p.omega s.cfg.ts)) } }

/-- The pipeline of an active state: observer, startup machine, then either the safe stop of a timeout (R214) or the
current loop and the SVPWM stage (R212). -/
def tickPipeline (s : State) : State :=
  let s1 := tickObserve s
  let s2 := stUpdate s1 s1.pll.omega s1.pll.emag2 s1.pll.theta
  if s2.st.state = .fail then s2.safeStopEntry
  else
    let s3 := focStep s2 s.inp.ia s.inp.ib (angleSelect s2 s1.pll.theta)
    { s3 with out := svpwm s3.cfg s3.foc.valpha s3.foc.vbeta }

/-- One control tick: the over-current test (R211), STOP and FAIL at entry (R213), the pipeline (R212). -/
def tick (s : State) : State :=
  if overCurrent s.cfg s.inp then s.overCurrentEntry
  else
    match s.st.state with
    | .stop => s.zeroOutputs
    | .fail => { s with idRef := 0, iqRef := 0 }.safeStopEntry
    | .align | .ramp | .blend | .run => tickPipeline s

/-- REINIT (R200). -/
def execReinit (s : State) : Result := .next s.reinit

/-- STINIT (R201). -/
def execStinit (s : State) : Result := .next s.stinit

/-- STTICK (R208). -/
def execSttick (rd rs1 rs2 rs3 : RegIdx) (s : State) : Result :=
  let t := stUpdate s (s.getX rs1) (s.getX rs2) (s.getX rs3)
  .next (t.setX rd (angleSelect t (s.getX rs3)))

/-- TICK (R210). -/
def execTick (s : State) : Result := .next (tick s)

end Sys2Proof.Machine
end

