-- ==== Sys2Proof/Machine/System.lean ====
section
/-! DEFINITION. The system commands NOP and CLRSTAT (48_system_ops.md). -/

namespace Sys2Proof.Machine

/-- NOP: nothing but CMD, which took the word before it ran (R240). -/
def execNop (s : State) : Result := .next s

/-- CLRSTAT: clears ILL and ACC and nothing else (R241). -/
def execClrstat (s : State) : Result := .next ((s.clear .ill).clear .acc)

end Sys2Proof.Machine
end

