-- ==== Sys2Proof/Machine/Dispatch.lean ====
section
/-! DEFINITION. `exec`: one arm for each command of R83, each a direct call of its meaning. -/

namespace Sys2Proof.Machine

def exec (i : Instr) (s : State) : Host.Outcome State Fault Refusal :=
  match i with
  | .nop => Sys2Proof.Machine.execNop s
  | .add rd rs1 rs2 => Sys2Proof.Machine.execAdd rd rs1 rs2 s
  | .sub rd rs1 rs2 => Sys2Proof.Machine.execSub rd rs1 rs2 s
  | .mul rd rs1 rs2 => Sys2Proof.Machine.execMul rd rs1 rs2 s
  | .div rd rs1 rs2 => Sys2Proof.Machine.execDiv rd rs1 rs2 s
  | .fromint rd rs1 => Sys2Proof.Machine.execFromint rd rs1 s
  | .toint rd rs1 => Sys2Proof.Machine.execToint rd rs1 s
  | .fromfrac rd rs1 rs2 => Sys2Proof.Machine.execFromfrac rd rs1 rs2 s
  | .wrap rd rs1 => Sys2Proof.Machine.execWrap rd rs1 s
  | .sincos rd rd2 rs1 => Sys2Proof.Machine.execSincos rd rd2 rs1 s
  | .asr rd rs1 rs2 => Sys2Proof.Machine.execAsr rd rs1 rs2 s
  | .clarke rd rd2 rs1 rs2 => Sys2Proof.Machine.execClarke rd rd2 rs1 rs2 s
  | .iclarke rd rd2 rd3 rs1 rs2 => Sys2Proof.Machine.execIclarke rd rd2 rd3 rs1 rs2 s
  | .park rd rd2 rs1 rs2 rs3 => Sys2Proof.Machine.execPark rd rd2 rs1 rs2 rs3 s
  | .ipark rd rd2 rs1 rs2 rs3 => Sys2Proof.Machine.execIpark rd rd2 rs1 rs2 rs3 s
  | .pid0 rd rs1 rs2 rs3 => Sys2Proof.Machine.execPid0 rd rs1 rs2 rs3 s
  | .pid1 rd rs1 rs2 rs3 => Sys2Proof.Machine.execPid1 rd rs1 rs2 rs3 s
  | .pid2 rd rs1 rs2 rs3 => Sys2Proof.Machine.execPid2 rd rs1 rs2 rs3 s
  | .slewd rd rs1 rs2 rs3 => Sys2Proof.Machine.execSlewd rd rs1 rs2 rs3 s
  | .slewq rd rs1 rs2 rs3 => Sys2Proof.Machine.execSlewq rd rs1 rs2 rs3 s
  | .sstep rd rs1 rs2 => Sys2Proof.Machine.execSstep rd rs1 rs2 s
  | .pllstep rd rd2 rs1 rs2 rs3 rs4 => Sys2Proof.Machine.execPllstep rd rd2 rs1 rs2 rs3 rs4 s
  | .focstep rd rd2 rs1 rs2 rs3 => Sys2Proof.Machine.execFocstep rd rd2 rs1 rs2 rs3 s
  | .svpwm rs1 rs2 => Sys2Proof.Machine.execSvpwm rs1 rs2 s
  | .stinit => Sys2Proof.Machine.execStinit s
  | .sttick rd rs1 rs2 rs3 => Sys2Proof.Machine.execSttick rd rs1 rs2 rs3 s
  | .tick => Sys2Proof.Machine.execTick s
  | .reinit => Sys2Proof.Machine.execReinit s
  | .clrstat => Sys2Proof.Machine.execClrstat s
  | .calinit rs1 rs2 => Sys2Proof.Machine.execCalinit rs1 rs2 s
  | .calupd rs1 => Sys2Proof.Machine.execCalupd rs1 s

end Sys2Proof.Machine
end

