-- ==== Sys2Proof/Machine/Port.lean ====
section
/-! DEFINITION. The host port (R61, R62, R69, R270): what WR, RD and reset do. -/

namespace Sys2Proof.Machine

/-- `execute(v)`: carry out the command `v` names, or set ILL where it names none (R61, R84, R85, R251). -/
def State.execute (s : State) (v : Word) : Result :=
  match decode v with
  | .ok i => exec i s
  | .error _ => .next (s.raise .ill)

/-- `WR(idx, v)`: refused with ACC at an unmapped index or a read-only register; at CMD the word is stored, then
executed; elsewhere it is stored (R61, R62, R25). -/
def State.hostWr (s : State) (idx : PortIdx) (v : Word) : Result :=
  match Reg.ofIndex idx with
  | none => .next (s.raise .acc)
  | some r =>
    match r.access with
    | .ro => .next (s.raise .acc)
    | .rw => if r = .cmd then (s.hostStore .cmd v).execute v else .next (s.hostStore r v)

/-- `RD(idx)`: the value of a mapped register, with no side effect on it; 0 and ACC at an unmapped index (R61, R62,
R65). The word returned stands in `rdData` (log 3). -/
def State.hostRd (s : State) (idx : PortIdx) : State :=
  match Reg.ofIndex idx with
  | none => { s.raise .acc with rdData := some 0 }
  | some r => { s with rdData := some (s.get r) }

/-- The reset event: every mapped register to its reset value, the parameters as they were built (R270, R271); what
the host has still to send and the last word it read are outside the block (log 4). -/
def State.resetEvent (s : State) : State :=
  { State.resetWith s.cfg with port := s.port, rdData := s.rdData }

/-- One port event (R61, R69, R270). -/
def State.portEvent (s : State) (e : PortEvent) : Result :=
  match e with
  | .wr idx v => s.hostWr idx v
  | .rd idx => .next (s.hostRd idx)
  | .reset => .next s.resetEvent

/-- Carry out the next port event, which leaves the list; with none pending the block waits, unchanged (R22, R64;
log 1). -/
def State.nextEvent (s : State) : Result :=
  match s.port with
  | [] => .next s
  | e :: rest => { s with port := rest }.portEvent e

/-- Put the command word `v` where the next step finds it: a WR to CMD at the front of the port's list (R73). -/
def State.placeCommand (s : State) (v : Word) : State :=
  { s with port := .wr 0x10#8 v :: s.port }

end Sys2Proof.Machine
end

