-- ==== Sys2Proof/Machine/Step.lean ====
section
/-! DEFINITION. One step of the machine: one transaction of the host port (R64, R69). -/

namespace Sys2Proof.Machine

/-- One step: the next port event, carried out completely (R61, R64, R69). -/
def step (s : State) : Host.Outcome State Fault Refusal := s.nextEvent

/-- `s` with the command word `w` (its low `nbits` bits, all others 0) as the next host transaction (log 1). -/
def State.withFetchWord (s : State) (nbits w : Nat) : State := s.placeCommand (tableWord nbits w)

end Sys2Proof.Machine
end

