-- ==== Sys2Proof/WellFormed.lean ====
section
/-! DEFINITION. Well-formedness. A command carries its bounds in its types: every register field is a 4-bit number
and all sixteen values are legal (R81), so there is no ill-formed term of `Instr`. What can be ill-formed is a
configuration: R6 lists a constraint for most parameters, one check each below. -/

namespace Sys2Proof

/-- Every term of `Instr` is a legal command (R81: all sixteen values of each register field are legal). -/
def Instr.WellFormed (_ : Instr) : Bool := true

/-- `PID_OUT_MIN[k] <= PID_OUT_MAX[k]` (R6). -/
def PidCfg.boundsOk (c : PidCfg) : Bool := c.outMin.toInt ≤ c.outMax.toInt

/-- `PLL_W_MIN <= PLL_W_MAX` (R6). -/
def Config.pllSpeedOk (c : Config) : Bool := c.pllWMin.toInt ≤ c.pllWMax.toInt

/-- `PLL_I_MIN <= PLL_I_MAX` (R6). -/
def Config.pllIntegOk (c : Config) : Bool := c.pllIMin.toInt ≤ c.pllIMax.toInt

/-- `I_OC_LIMIT >= 0` (R6). -/
def Config.ocLimitOk (c : Config) : Bool := 0 ≤ c.iOcLimit.toInt

/-- `0 <= PWM_MAX <= 32767` (R6). -/
def Config.pwmMaxOk (c : Config) : Bool := 0 ≤ c.pwmMax.toInt && c.pwmMax.toInt ≤ 32767

/-- `ST_ALIGN_TIME_TICKS >= 1` and `ST_TIMEOUT_TICKS >= 1` (R6). -/
def Config.ticksOk (c : Config) : Bool := 1 ≤ c.stAlignTimeTicks.toNat && 1 ≤ c.stTimeoutTicks.toNat

/-- `1 <= ST_BLEND_TICKS <= 2^31 - 1` (R6). -/
def Config.blendTicksOk (c : Config) : Bool :=
  1 ≤ c.stBlendTicks.toNat && c.stBlendTicks.toNat ≤ 2147483647

/-- `ST_RAMP_IQ_STEP`, `ST_DTHETA_SLEW` and `ST_ID_DECAY_STEP` are `>= 0` (R6). -/
def Config.stepsOk (c : Config) : Bool :=
  0 ≤ c.stRampIqStep.toInt && 0 ≤ c.stDthetaSlew.toInt && 0 ≤ c.stIdDecayStep.toInt

/-- `|ST_DTHETA_MAX| <= 2.0` (R6). -/
def Config.dthetaOk (c : Config) : Bool :=
  -131072 ≤ c.stDthetaMax.toInt && c.stDthetaMax.toInt ≤ 131072

/-- `ST_HANDOFF_OMEGA_MIN >= 0` and `ST_HANDOFF_EMF2_MIN >= 0` (R6). -/
def Config.handoffOk (c : Config) : Bool :=
  0 ≤ c.stHandoffOmegaMin.toInt && 0 ≤ c.stHandoffEmf2Min.toInt

/-- `CAL_FULL_SCALE > 0` (R6). -/
def Config.calOk (c : Config) : Bool := 0 < c.calFullScale.toInt

/-- The constraints of R6 that its rules assume. The entries R6 marks "expected" only (`TS`, `SLEW_UP`, `SLEW_DN`,
`SS_RISE`, `PLL_ALPHA`) have rules for the other values and are no part of it. -/
def Config.WellFormed (c : Config) : Bool :=
  c.pid0.boundsOk && c.pid1.boundsOk && c.pid2.boundsOk && c.pllSpeedOk && c.pllIntegOk && c.ocLimitOk &&
  c.pwmMaxOk && c.ticksOk && c.blendTicksOk && c.stepsOk && c.dthetaOk && c.handoffOk && c.calOk

end Sys2Proof
end

