-- ==== Sys2Proof/Safety.lean ====
section
/-! DEFINITION. The terms claims are stated in: what a rounded quotient is, what a frame is, and what the spec promises
of the registers in every run. -/

namespace Sys2Proof

/-- `q` is `n / d` rounded to the nearest integer, a tie going away from zero (R10), said without computing it. -/
def RoundsTo (n d q : Int) : Prop :=
  2 * (n - q * d).natAbs ≤ d.natAbs ∧ (2 * (n - q * d).natAbs = d.natAbs → n.natAbs < (q * d).natAbs)

/-- An integer held to the range of a 32-bit word (R9). -/
def saturated (v : Int) : Int := max (-2147483648) (min 2147483647 v)

/-- The word `w` is the Q16.16 product of `a` and `b`, rounded, then saturated (R102). -/
def IsProduct (a b w : Word) : Prop := ∃ q, RoundsTo (a.toInt * b.toInt) 65536 q ∧ w.toInt = saturated q

/-- The word `w` is the quotient of the integers `n` and `d`: rounded and saturated, the extreme of the dividend's sign
for a zero divisor (R10, R9, R254). -/
def IsRounded (n d : Int) (w : Word) : Prop :=
  (d ≠ 0 → ∃ q, RoundsTo n d q ∧ w.toInt = saturated q) ∧
  (d = 0 → 0 ≤ n → w.toInt = 2147483647) ∧
  (d = 0 → n < 0 → w.toInt = -2147483648)

/-- The word `w` is the Q16.16 quotient of `a` by `b` (R103). -/
def IsQuotient (a b w : Word) : Prop := IsRounded (a.toInt * 65536) b.toInt w

namespace Machine

/-- The frame: every register of the register map but those listed reads as before, and the model's own fields (the
configuration, the pending transactions, the last word read) are as before. -/
def SameBut (changed : List Reg) (s t : State) : Prop :=
  (∀ r, r ∉ changed → t.get r = s.get r) ∧ t.cfg = s.cfg ∧ t.port = s.port ∧ t.rdData = s.rdData

/-- The eleven `OUT_` and `SVM_` registers (R191). -/
def outRegs : List Reg :=
  [.outCmpA, .outCmpB, .outCmpC, .outMarker, .svmSector, .svmT0, .svmT1, .svmT2, .svmDa, .svmDb, .svmDc]

/-- The `FOC_` registers but `FOC_VBUS` (R180). -/
def focRegs : List Reg :=
  [.focIalpha, .focIbeta, .focId, .focIq, .focVd, .focVq, .focValpha, .focVbeta, .focTheta]

/-- The registers a FOC step writes (R180). -/
def focStepRegs : List Reg :=
  focRegs ++ [.slewVd, .slewVq, .ssGain, .pid0Integ, .pid0Prev, .pid1Integ, .pid1Prev]

/-- The `PLL_` registers but `PLL_THETA` (R170, R173). -/
def pllStepRegs : List Reg :=
  [.pllOmega, .pllInteg, .pllIaPrev, .pllIbPrev, .pllDiaF, .pllDibF, .pllEa, .pllEb, .pllEmag2, .pllErr]

/-- The registers the startup machine writes (R208). -/
def startupRegs : List Reg :=
  [.idRef, .iqRef, .stState, .stTicks, .stThetaF, .stDtheta, .stIqOl, .stThetaBlend]

/-- The registers of index 0x1E .. 0x65, which `reinit()` zeroes (R200, R40). -/
def reinitRegs : List Reg :=
  startupRegs ++ outRegs ++ focStepRegs ++ [.focVbus, .pid2Integ, .pid2Prev, .pllTheta] ++ pllStepRegs

/-- The four compare outputs are 0: "all duties zero" (R266). -/
def State.OutputsZero (s : State) : Prop :=
  s.out.cmpA = 0 ∧ s.out.cmpB = 0 ∧ s.out.cmpC = 0 ∧ s.out.marker = 0

/-- The safe-stop output: all duties zero and `STATUS.SAFE_STOP` set (R266). -/
def State.SafeStop (s : State) : Prop := s.OutputsZero ∧ statusBit s.status .safeStop = true

/-- The values no operation ever produces: STATUS bits 31:4, CAL_VALID bits 31:1, ST_STATE above 5, SVM_SECTOR above 6
(93 I15; R26, R31, R36, R37). -/
def State.ReservedOk (s : State) : Prop :=
  (s.get .status).toNat < 16 ∧ (s.get .calValid).toNat < 2 ∧ (s.get .stState).toNat < 6 ∧
    (s.get .svmSector).toNat < 7

/-- The soft-start gain lies in [0, ONE] (R33, R156). -/
def State.GainOk (s : State) : Prop := 0 ≤ s.ssGain.toInt ∧ s.ssGain.toInt ≤ 65536

/-- A plain integer in [0, `PWM_MAX`] (R30). -/
def inCompareRange (c : Config) (w : Word) : Prop := 0 ≤ w.toInt ∧ w.toInt ≤ c.pwmMax.toInt

/-- A duty or time fraction in [0, ONE] (R31). -/
def inUnit (w : Word) : Prop := 0 ≤ w.toInt ∧ w.toInt ≤ 65536

/-- The outputs are zeroed, or they are a full carrier period: fractions in [0, ONE] whose times add up to ONE, and
compare values and marker in [0, `PWM_MAX`] (R30, R31, R193). -/
def OutRegs.Ok (c : Config) (o : OutRegs) : Prop :=
  o = .zero ∨
    (inUnit o.da ∧ inUnit o.db ∧ inUnit o.dc ∧ inUnit o.t0 ∧ inUnit o.t1 ∧ inUnit o.t2 ∧
      o.t0.toInt + o.t1.toInt + o.t2.toInt = 65536 ∧ 1 ≤ o.sector.toNat ∧ o.sector.toNat ≤ 6 ∧
      inCompareRange c o.cmpA ∧ inCompareRange c o.cmpB ∧ inCompareRange c o.cmpC ∧ inCompareRange c o.marker)

/-- The outputs and the gain are in their ranges, for a `PWM_MAX` inside R6's constraint. -/
def State.RangesOk (s : State) : Prop := s.cfg.pwmMaxOk = true ∧ s.GainOk ∧ s.out.Ok s.cfg

/-- An angle in the invariant range (-1.0, +1.0] (R17). -/
def wrappedAngle (w : Word) : Prop := -65536 < w.toInt ∧ w.toInt ≤ 65536

/-- The forced angle is a wrapped angle and its step is at most 2.0 in magnitude, for step parameters inside R6's
constraints (R17, R204, R276). -/
def State.ForcedAngleOk (s : State) : Prop :=
  s.cfg.stepsOk = true ∧ s.cfg.dthetaOk = true ∧ wrappedAngle s.st.thetaF ∧
    -131072 ≤ s.st.dtheta.toInt ∧ s.st.dtheta.toInt ≤ 131072

/-- The port event is a WR to CMD of the command `i`. -/
def PortEvent.Commands (e : PortEvent) (i : Instr) : Prop := e = .wr 0x10#8 (encode i)

/-- A phase current exceeds the over-current ceiling in magnitude, said without `abs_sat` (R211). -/
def exceedsLimit (c : Config) (i : Word) : Prop := c.iOcLimit.toInt < min 2147483647 (i.toInt.natAbs : Int)

/-- Any of the three phase currents exceeds the ceiling (R211). -/
def State.PhaseOverCurrent (s : State) : Prop :=
  exceedsLimit s.cfg s.inp.ia ∨ exceedsLimit s.cfg s.inp.ib ∨ exceedsLimit s.cfg s.inp.ic

/-- One run as a run the host wrote well: no illegal command and no refused access recorded (R251, D8). -/
def State.WellFormedRun (s : State) : Prop :=
  statusBit s.status .ill = false ∧ statusBit s.status .acc = false

end Machine
end Sys2Proof
end

