-- ==== Sys2Proof/Safety/Rules.lean ====
section
/-! DEFINITION. The rules of the spec written as relations over integers, without the functions of Machine/: what a
result must be, not how it is computed. The statements of Certificates/ are about these. -/

namespace Sys2Proof
namespace Rule

open Machine

/-- The opcode and the format of a command, as the rule of the command names them (R83). -/
def Coded (i : Instr) (op : BitVec 8) (f : Format) : Prop := i.opcode = op ∧ i.format = f

/-- `w` is the saturated sum (R100). -/
def IsSum (a b w : Word) : Prop := w.toInt = saturated (a.toInt + b.toInt)

/-- `w` is the saturated difference (R101). -/
def IsDiff (a b w : Word) : Prop := w.toInt = saturated (a.toInt - b.toInt)

/-- `w` is the saturated negation (R12). -/
def IsNeg (a w : Word) : Prop := w.toInt = saturated (-a.toInt)

/-- `w` is `a` wrapped once (R107). -/
def IsWrapped (a w : Word) : Prop :=
  (65536 < a.toInt → w.toInt = a.toInt - 131072) ∧
  (a.toInt ≤ -65536 → w.toInt = a.toInt + 131072) ∧
  (-65536 < a.toInt → a.toInt ≤ 65536 → w = a)

/-- `w` is `x` moved toward `target` by at most `step` (R14), `step >= 0` or not. -/
def Approaches (x target step w : Word) : Prop :=
  (x.toInt < target.toInt → w.toInt = min target.toInt (saturated (x.toInt + step.toInt))) ∧
  (target.toInt < x.toInt → w.toInt = max target.toInt (saturated (x.toInt - step.toInt))) ∧
  (x.toInt = target.toInt → w = x)

/-- One iteration of the rotation on exact integers (x, y, z) (R133); `/` is floor division. -/
def CordicStep (atan : Int) (i : Nat) (v w : Int × Int × Int) : Prop :=
  (0 ≤ v.2.2 → w = (saturated (v.1 - v.2.1 / 2 ^ i), saturated (v.2.1 + v.1 / 2 ^ i), saturated (v.2.2 - atan))) ∧
  (v.2.2 < 0 → w = (saturated (v.1 + v.2.1 / 2 ^ i), saturated (v.2.1 - v.1 / 2 ^ i), saturated (v.2.2 + atan)))

/-- `(sn, cs)` is `sincos(a)`: `t` the angle reduced modulo one turn (R131), `phi` the flipped angle (R132), `(x, y)` the
end of the twelve iterations or the bypass at 0 (R133), then the un-rotation (R134). -/
def IsSincos (c : Config) (a sn cs : Word) : Prop :=
  ∃ t phi x y : Int,
    -32768 < t ∧ t ≤ 32768 ∧ (65536 : Int) ∣ a.toInt - t ∧
    (phi = 0 → x = 65536 ∧ y = 0) ∧
    (phi ≠ 0 → ∃ v : Nat → Int × Int × Int, v 0 = (c.cordicK.toInt, 0, phi) ∧
      (∀ i, ∀ h : i < 12, CordicStep (c.cordicAtan[i]'h).toInt i (v i) (v (i + 1))) ∧
      (v 12).1 = x ∧ (v 12).2.1 = y) ∧
    ((16384 < t ∧ phi = t - 16384 ∧ sn.toInt = x ∧ cs.toInt = saturated (-y)) ∨
     (t ≤ -16384 ∧ phi = t + 16384 ∧ sn.toInt = saturated (-x) ∧ cs.toInt = y) ∨
     (-16384 < t ∧ t ≤ 16384 ∧ phi = t ∧ sn.toInt = y ∧ cs.toInt = x))

/-- `(al, be)` is `clarke(a, b)` (R140). -/
def IsClarke (a b al be : Word) : Prop :=
  al = a ∧ ∃ b2 s3 : Word, IsSum b b b2 ∧ IsSum a b2 s3 ∧ IsProduct s3 37837#32 be

/-- `(a, b, c)` is `iclarke(al, be)` (R141); `al.toInt / 2` is the floor of the half. -/
def IsIclarke (al be a b c : Word) : Prop :=
  a = al ∧ ∃ t : Word, IsProduct be 56756#32 t ∧
    b.toInt = saturated (t.toInt - al.toInt / 2) ∧
    c.toInt = saturated (-saturated (al.toInt / 2 + t.toInt))

/-- `(d, q)` is `park_sc(al, be, sn, cs)` (R142). -/
def IsPark (al be sn cs d q : Word) : Prop :=
  ∃ p1 p2 p3 p4 : Word, IsProduct al cs p1 ∧ IsProduct be sn p2 ∧ IsProduct be cs p3 ∧ IsProduct al sn p4 ∧
    IsSum p1 p2 d ∧ IsDiff p3 p4 q

/-- `(al, be)` is `ipark_sc(d, q, sn, cs)` (R143). -/
def IsIpark (d q sn cs al be : Word) : Prop :=
  ∃ p1 p2 p3 p4 : Word, IsProduct d cs p1 ∧ IsProduct q sn p2 ∧ IsProduct d sn p3 ∧ IsProduct q cs p4 ∧
    IsDiff p1 p2 al ∧ IsSum p3 p4 be

/-- The derivative term of R150. -/
def PidDerivative (c : PidCfg) (r : PidRegs) (meas dt d : Word) : Prop :=
  (dt.toInt = 0 → d.toInt = 0) ∧
  (dt.toInt ≠ 0 → ∃ change minus rate : Word,
    IsDiff meas r.prev change ∧ IsNeg change minus ∧ IsQuotient minus dt rate ∧ IsProduct c.kd rate d)

/-- The integral candidate of R150. -/
def PidCandidate (c : PidCfg) (r : PidRegs) (sp meas dt icand : Word) : Prop :=
  (dt.toInt = 0 → icand = r.integ) ∧
  (dt.toInt ≠ 0 → ∃ e p1 p2 : Word,
    IsDiff sp meas e ∧ IsProduct e c.ki p1 ∧ IsProduct p1 dt p2 ∧ IsSum r.integ p2 icand)

/-- One PID step: output `out` and registers `r'` from `r` (R150). -/
def IsPid (c : PidCfg) (r : PidRegs) (sp meas dt out : Word) (r' : PidRegs) : Prop :=
  ∃ e p d icand pd pre u : Word,
    IsDiff sp meas e ∧ IsProduct c.kp e p ∧ PidDerivative c r meas dt d ∧ PidCandidate c r sp meas dt icand ∧
    IsSum p d pd ∧ IsSum pd r.integ pre ∧ IsSum pd icand u ∧
    (c.outMax.toInt < u.toInt → out = c.outMax ∧
      (pre.toInt < c.outMax.toInt → r'.integ = icand) ∧ (c.outMax.toInt ≤ pre.toInt → r'.integ = r.integ)) ∧
    (u.toInt ≤ c.outMax.toInt → u.toInt < c.outMin.toInt → out = c.outMin ∧
      (c.outMin.toInt < pre.toInt → r'.integ = icand) ∧ (pre.toInt ≤ c.outMin.toInt → r'.integ = r.integ)) ∧
    (u.toInt ≤ c.outMax.toInt → c.outMin.toInt ≤ u.toInt → out = u ∧ r'.integ = icand) ∧
    r'.prev = meas

/-- `out` is `slew(j, prev, target, dt)` over the rates `c` (R153); the two steps are the products, negative ones
counting as 0. -/
def IsSlew (c : SlewCfg) (prev target dt out : Word) : Prop :=
  ∃ d up dn : Word, IsDiff target prev d ∧ IsProduct c.up dt up ∧ IsProduct c.dn dt dn ∧
    (0 < d.toInt → d.toInt ≤ max 0 up.toInt → out = target) ∧
    (0 < d.toInt → max 0 up.toInt < d.toInt → out.toInt = saturated (prev.toInt + max 0 up.toInt)) ∧
    (d.toInt < 0 → saturated (-d.toInt) ≤ max 0 dn.toInt → out = target) ∧
    (d.toInt < 0 → max 0 dn.toInt < saturated (-d.toInt) → out.toInt = saturated (prev.toInt - max 0 dn.toInt)) ∧
    (d.toInt = 0 → out = target)

/-- `g` is the gain after `sstep(enable, dt)` from the gain `gain` (R156). -/
def IsSoftStart (ssRise gain : Word) (enable : Prop) (dt g : Word) : Prop :=
  (¬enable → g.toInt = 0) ∧
  (enable → ssRise.toInt ≤ 0 → g.toInt = 65536) ∧
  (enable → 0 < ssRise.toInt → ∃ inc : Word, IsQuotient dt ssRise inc ∧
    g.toInt = max 0 (min 65536 (saturated (gain.toInt + inc.toInt))))

/-- `new` is the filtered derivative of a current that went from `prev` to `i` (R170, steps 1 and 2). -/
def PllFiltered (c : Config) (prev i old new : Word) : Prop :=
  ∃ change deriv k1 p1 p2 : Word, IsDiff i prev change ∧ IsQuotient change c.ts deriv ∧
    k1.toInt = saturated (65536 - c.pllAlpha.toInt) ∧ IsProduct k1 old p1 ∧ IsProduct c.pllAlpha deriv p2 ∧
    IsSum p1 p2 new

/-- `e` is the back-EMF of one axis (R170, step 3). -/
def PllBackEmf (c : Config) (v i di e : Word) : Prop :=
  ∃ p1 p2 drop : Word, IsProduct c.pllRs i p1 ∧ IsProduct c.pllLs di p2 ∧ IsSum p1 p2 drop ∧ IsDiff v drop e

/-- `w` is `u` held to the bounds in the order of R13: the upper first. -/
def IsClamped (u lo hi w : Word) : Prop :=
  (hi.toInt < u.toInt → w = hi) ∧ (u.toInt ≤ hi.toInt → u.toInt < lo.toInt → w = lo) ∧
  (u.toInt ≤ hi.toInt → lo.toInt ≤ u.toInt → w = u)

/-- The speed `u` held to its bounds is `w` (R170 step 6, R172). -/
def PllSpeedBounded (c : Config) (u w : Word) : Prop :=
  ∃ w1 : Word, (c.pllWMax.toInt < u.toInt → w1 = c.pllWMax) ∧ (u.toInt ≤ c.pllWMax.toInt → w1 = u) ∧
    (c.pllLowerClamp = true → w1.toInt < c.pllWMin.toInt → w = c.pllWMin) ∧
    ((c.pllLowerClamp = false ∨ c.pllWMin.toInt ≤ w1.toInt) → w = w1)

/-- One observer step from the record `p` to `p'` (R170, R173). -/
def IsPllStep (c : Config) (p : PllRegs) (va vb ia ib : Word) (p' : PllRegs) : Prop :=
  p'.theta = p.theta ∧ p'.iaPrev = ia ∧ p'.ibPrev = ib ∧
  PllFiltered c p.iaPrev ia p.diaF p'.diaF ∧ PllFiltered c p.ibPrev ib p.dibF p'.dibF ∧
  PllBackEmf c va ia p'.diaF p'.ea ∧ PllBackEmf c vb ib p'.dibF p'.eb ∧
  (∃ sn cs minus p1 p2 : Word, IsSincos c p.theta sn cs ∧ IsNeg sn minus ∧ IsProduct minus p'.ea p1 ∧
    IsProduct cs p'.eb p2 ∧ IsSum p1 p2 p'.err) ∧
  (∃ inc sum : Word, IsProduct c.pllKi p'.err inc ∧ IsSum p.integ inc sum ∧
    IsClamped sum c.pllIMin c.pllIMax p'.integ) ∧
  (∃ prop corr u : Word, IsProduct c.pllKp p'.err prop ∧ IsSum prop p'.integ corr ∧ IsSum p.omega corr u ∧
    PllSpeedBounded c u p'.omega) ∧
  (∃ p1 p2 : Word, IsProduct p'.ea p'.ea p1 ∧ IsProduct p'.eb p'.eb p2 ∧ IsSum p1 p2 p'.emag2)

/-- One FOC step from `s` to `t` on the currents `ia`, `ib` and the angle `theta`, one sine/cosine pair for both Park
transforms (R180, R144). -/
def IsFocStep (s : State) (ia ib theta : Word) (t : State) : Prop :=
  ∃ sn cs vdPid vqPid : Word, IsSincos s.cfg theta sn cs ∧
    IsClarke ia ib t.foc.ialpha t.foc.ibeta ∧
    IsPark t.foc.ialpha t.foc.ibeta sn cs t.foc.id t.foc.iq ∧
    IsPid s.cfg.pid0 s.pid0 s.idRef t.foc.id s.cfg.ts vdPid t.pid0 ∧
    IsPid s.cfg.pid1 s.pid1 s.iqRef t.foc.iq s.cfg.ts vqPid t.pid1 ∧
    IsSlew s.cfg.slew0 s.slewVd vdPid s.cfg.ts t.slewVd ∧
    IsSlew s.cfg.slew1 s.slewVq vqPid s.cfg.ts t.slewVq ∧
    IsSoftStart s.cfg.ssRise s.ssGain True s.cfg.ts t.ssGain ∧
    t.foc.vd = t.slewVd ∧ IsProduct t.ssGain t.slewVq t.foc.vq ∧
    IsIpark t.foc.vd t.foc.vq sn cs t.foc.valpha t.foc.vbeta ∧
    t.foc.theta = theta

/-- The lookup of R186, indexed by the sign code. -/
def sectorTable : List Nat := [1, 1, 3, 2, 5, 6, 4, 1]

/-- The sector of three phase values (R186). -/
def IsSector (va vb vc w : Word) : Prop :=
  ∃ code : Nat,
    (code = (if 0 < va.toInt then 1 else 0) + (if 0 < vb.toInt then 2 else 0) + (if 0 < vc.toInt then 4 else 0)) ∧
    some w.toNat = sectorTable[code]?

/-- The duty fractions of three phase values (R187). -/
def IsDuties (va vb vc da db dc : Word) : Prop :=
  ∃ m span off : Int, m = min (min va.toInt vb.toInt) vc.toInt ∧
    span = min 65536 (max (max (saturated (va.toInt - m)) (saturated (vb.toInt - m))) (saturated (vc.toInt - m))) ∧
    off = (65536 - span) / 2 ∧
    da.toInt = max 0 (min 65536 (saturated (saturated (va.toInt - m) + off))) ∧
    db.toInt = max 0 (min 65536 (saturated (saturated (vb.toInt - m) + off))) ∧
    dc.toInt = max 0 (min 65536 (saturated (saturated (vc.toInt - m) + off)))

/-- `w` is the fraction `f` of `PWM_MAX`, rounded (R15, R189). -/
def IsScaled (c : Config) (f : Int) (w : Word) : Prop :=
  ∃ q, RoundsTo (f * c.pwmMax.toInt) 65536 q ∧ w.toInt = saturated q

/-- The eleven output registers of `svpwm(al, be)` (R185 to R190): some order of the duties is `lo <= mid <= hi`. -/
def IsSvpwm (c : Config) (al be : Word) (o : OutRegs) : Prop :=
  ∃ va vb vc : Word, IsIclarke al be va vb vc ∧ IsSector va vb vc o.sector ∧
    IsDuties va vb vc o.da o.db o.dc ∧
    (∃ lo mid hi : Int, lo ≤ mid ∧ mid ≤ hi ∧ [lo, mid, hi].Perm [o.da.toInt, o.db.toInt, o.dc.toInt] ∧
      o.t1.toInt = hi - mid ∧ o.t2.toInt = mid - lo ∧ o.t0.toInt = 65536 - (hi - mid) - (mid - lo)) ∧
    IsScaled c o.da.toInt o.cmpA ∧ IsScaled c o.db.toInt o.cmpB ∧ IsScaled c o.dc.toInt o.cmpC ∧
    (o.t2.toInt ≤ o.t1.toInt → IsScaled c ((o.t0.toInt + o.t1.toInt) / 2) o.marker) ∧
    (o.t1.toInt < o.t2.toInt → IsScaled c (o.t0.toInt / 2 + o.t1.toInt + o.t2.toInt / 2) o.marker)

/-- The tick counter after one `inc_ticks()` (R202). -/
def ticksAfter (s : State) : Nat := min 4294967295 (s.st.ticks.toNat + 1)

/-- The plausibility signal of the handoff, said without `abs_sat` (R204). -/
def HandoffSignal (c : Config) (w emag2 : Word) : Prop :=
  c.stHandoffOmegaMin.toInt < min 2147483647 (w.toInt.natAbs : Int) ∨ c.stHandoffEmf2Min.toInt < emag2.toInt

/-- The ALIGN update (R203). -/
def IsStAlign (s s2 : State) : Prop :=
  s2.idRef = s.cfg.stAlignId ∧ s2.iqRef = 0 ∧ s2.st.thetaF = 0 ∧
  (s.cfg.stAlignTimeTicks.toNat ≤ ticksAfter s → s2.st.state = .ramp ∧ s2.st.ticks = 0) ∧
  (ticksAfter s < s.cfg.stAlignTimeTicks.toNat → s2.st.state = .align ∧ s2.st.ticks.toNat = ticksAfter s) ∧
  SameBut [.idRef, .iqRef, .stState, .stTicks, .stThetaF] s s2

/-- The handoff condition at the end of a RAMP update (R204). -/
def HandsOff (s : State) (w emag2 : Word) : Prop :=
  s.cfg.stHandoffMinTicks.toNat ≤ ticksAfter s ∧ HandoffSignal s.cfg w emag2

/-- The RAMP update (R204); `stAlignId.toInt / 4` is the floor of the quarter. -/
def IsStRamp (s : State) (w emag2 : Word) (s2 : State) : Prop :=
  Approaches s.st.iqOl s.cfg.stRampIqTarget s.cfg.stRampIqStep s2.st.iqOl ∧
  Approaches s.st.dtheta s.cfg.stDthetaMax s.cfg.stDthetaSlew s2.st.dtheta ∧
  (∃ sum : Word, IsSum s.st.thetaF s2.st.dtheta sum ∧ IsWrapped sum s2.st.thetaF) ∧
  (HandsOff s w emag2 → s2.st.state = .blend ∧ s2.st.ticks = 0 ∧ s2.st.thetaBlend = s2.st.thetaF) ∧
  (¬HandsOff s w emag2 → s2.st.ticks.toNat = ticksAfter s ∧ s2.st.thetaBlend = s.st.thetaBlend) ∧
  (¬HandsOff s w emag2 → s.cfg.stTimeoutTicks.toNat ≤ ticksAfter s →
    s2.st.state = .fail ∧ s2.idRef = 0 ∧ s2.iqRef = 0) ∧
  (¬HandsOff s w emag2 → ticksAfter s < s.cfg.stTimeoutTicks.toNat → s2.st.state = .ramp) ∧
  (s2.st.state ≠ .fail → s2.idRef.toInt = s.cfg.stAlignId.toInt / 4 ∧ s2.iqRef = s2.st.iqOl) ∧
  SameBut startupRegs s s2

/-- The BLEND update (R205); `IQ_REF` is given its last RAMP value, which `ST_IQ_OL` holds (R29; log 13). -/
def IsStBlend (s : State) (thObs : Word) (s2 : State) : Prop :=
  (∃ sum : Word, IsSum s.st.thetaF s.st.dtheta sum ∧ IsWrapped sum s2.st.thetaF) ∧
  s2.st.ticks.toNat = ticksAfter s ∧
  (∃ frac wb rest p1 p2 mix : Word, IsQuotient s2.st.ticks s.cfg.stBlendTicks frac ∧
    wb.toInt = min 65536 frac.toInt ∧ rest.toInt = saturated (65536 - wb.toInt) ∧
    IsProduct rest s2.st.thetaF p1 ∧ IsProduct wb thObs p2 ∧ IsSum p1 p2 mix ∧ IsWrapped mix s2.st.thetaBlend) ∧
  Approaches s.idRef 0 s.cfg.stIdDecayStep s2.idRef ∧ s2.iqRef = s.st.iqOl ∧
  (s.cfg.stBlendTicks.toNat ≤ ticksAfter s → s2.st.state = .run) ∧
  (ticksAfter s < s.cfg.stBlendTicks.toNat → s2.st.state = .blend) ∧
  SameBut [.idRef, .iqRef, .stState, .stTicks, .stThetaF, .stThetaBlend] s s2

/-- One update of the startup machine, by the state on entry (R202 to R207). -/
def IsStUpdate (s : State) (w emag2 thObs : Word) (s2 : State) : Prop :=
  (s.st.state = .stop → SameBut [] s s2) ∧
  (s.st.state = .align → IsStAlign s s2) ∧
  (s.st.state = .ramp → IsStRamp s w emag2 s2) ∧
  (s.st.state = .blend → IsStBlend s thObs s2) ∧
  (s.st.state = .run → SameBut [] s s2) ∧
  (s.st.state = .fail → s2.idRef = 0 ∧ s2.iqRef = 0 ∧ SameBut [.idRef, .iqRef] s s2)

/-- The angle the current loop uses after the update (R209). -/
def IsAngle (s2 : State) (thObs ang : Word) : Prop :=
  (s2.st.state = .align ∨ s2.st.state = .ramp → ang = s2.st.thetaF) ∧
  (s2.st.state = .blend → s2.cfg.blendFeedsFoc = true → ang = s2.st.thetaBlend) ∧
  (s2.st.state = .blend → s2.cfg.blendFeedsFoc = false → ang = thObs) ∧
  (s2.st.state = .run → ang = thObs) ∧
  (s2.st.state = .stop ∨ s2.st.state = .fail → ang = 0)

/-- The first half of a tick's pipeline, from `s` to `s1` (R212, R173). -/
def IsObserved (s s1 : State) : Prop :=
  (∃ ial ibe val vbe adv sum : Word, ∃ p : PllRegs,
    IsClarke s.inp.ia s.inp.ib ial ibe ∧ IsClarke s.inp.va s.inp.vb val vbe ∧
    IsPllStep s.cfg s.pll val vbe ial ibe p ∧ IsProduct p.omega s.cfg.ts adv ∧ IsSum p.theta adv sum ∧
    IsWrapped sum s1.pll.theta ∧ s1.pll = { p with theta := s1.pll.theta }) ∧
  s1.foc.vbus = s.inp.vbus ∧ SameBut (.focVbus :: .pllTheta :: pllStepRegs) s s1

/-- The opcode map of R83 with each row's mask of R82. -/
def opcodeMap : List (BitVec 8 × Word) :=
  [(0x00#8, 0xFFFFFFFF#32), (0x01#8, 0xFF0F00FF#32), (0x02#8, 0xFF0F00FF#32), (0x03#8, 0xFF0F00FF#32),
   (0x04#8, 0xFF0F00FF#32), (0x05#8, 0xFF0F0FFF#32), (0x06#8, 0xFF0F0FFF#32), (0x07#8, 0xFF0F00FF#32),
   (0x08#8, 0xFF0F0FFF#32), (0x09#8, 0xFF000FFF#32), (0x0A#8, 0xFF0F00FF#32), (0x10#8, 0xFF0000FF#32),
   (0x11#8, 0xFF00000F#32), (0x12#8, 0xFF00000F#32), (0x13#8, 0xFF00000F#32), (0x20#8, 0xFF0F000F#32),
   (0x21#8, 0xFF0F000F#32), (0x22#8, 0xFF0F000F#32), (0x24#8, 0xFF0F000F#32), (0x25#8, 0xFF0F000F#32),
   (0x26#8, 0xFF0F00FF#32), (0x30#8, 0xFF000000#32), (0x31#8, 0xFF00000F#32), (0x32#8, 0xFFFF00FF#32),
   (0x33#8, 0xFFFFFFFF#32), (0x34#8, 0xFF0F000F#32), (0x35#8, 0xFFFFFFFF#32), (0x36#8, 0xFFFFFFFF#32),
   (0x37#8, 0xFFFFFFFF#32), (0x40#8, 0xFFFF00FF#32), (0x41#8, 0xFFFF0FFF#32)]

/-- The word is a command: some row's opcode stands at its top and every bit of the row's mask below it is 0 (R82). -/
def LegalWord (w : Word) : Prop := ∃ row ∈ opcodeMap, w &&& row.2 = row.1.setWidth 32 <<< 24

/-- The arrows of R215 that a step can take without an explicit re-initialisation. -/
def forwardArrows : List (StState × StState) :=
  [(.align, .ramp), (.ramp, .blend), (.ramp, .fail), (.blend, .run)]

/-- The unmapped indices of R66. -/
def unmappedRanges : List (Nat × Nat) :=
  [(0x12, 0x17), (0x2B, 0x2F), (0x3D, 0x3F), (0x46, 0x4F), (0x5B, 0x5F), (0x66, 0x6F), (0x74, 0xFF)]

end Rule
end Sys2Proof
end

