-- ==== Sys2Proof/Certificates/Slice0/Obligations.lean ====
section
/-! DEFINITION. The statements. Most say that a command answers a next state, what that state holds (in the integer
terms of Safety/Rules.lean) and what it leaves unchanged (`SameBut`, over the whole register map). There is no memory
(R60): the register map is all a frame has to speak of. -/

open Sys2Proof Sys2Proof.Machine Sys2Proof.Rule

/-! ### Encoding and the host port -/

/-- Decoding the encoding of any command, with any operands, gives it back (R81, R83, R88). -/
def Obligations.DecodeOfEncode : Prop := ∀ i : Instr, decode (encode i) = .ok i

/-- Each command has one word: what a word decodes to encodes to that word (R82, R84). -/
def Obligations.EncodeOfDecode : Prop := ∀ (w : Word) (i : Instr), decode w = .ok i → encode i = w

/-- A word is a command exactly when it matches a row of the opcode map under the row's mask; then the command is that
row's (R82 to R85). -/
def Obligations.LegalWordsDecode : Prop :=
  ∀ w : Word, ((∃ i, decode w = .ok i) ↔ LegalWord w) ∧
    ∀ i, decode w = .ok i → ∃ row ∈ opcodeMap, row.1 = i.opcode ∧ w &&& row.2 = row.1.setWidth 32 <<< 24

/-- The encodings R88 writes out decode to the commands it names. -/
def Obligations.ExampleWordsDecode : Prop :=
  decode 0x01301200#32 = .ok (.add 3 1 2) ∧ decode 0x09450000#32 = .ok (.sincos 4 5 0) ∧
  decode 0x11124530#32 = .ok (.iclarke 1 2 3 4 5) ∧ decode 0x30891234#32 = .ok (.pllstep 8 9 1 2 3 4) ∧
  decode 0x32006700#32 = .ok (.svpwm 6 7) ∧ decode 0x35000000#32 = .ok .tick

/-- An illegal word written to CMD is taken by CMD and sets ILL; nothing else changes (R251). -/
def Obligations.IllegalCommandSetsIll : Prop :=
  ∀ (s : State) (w : Word) (rest : List PortEvent), s.port = .wr 0x10#8 w :: rest → ¬LegalWord w →
    ∃ t, step s = .next t ∧ t.get .cmd = w ∧ t.get .status = s.get .status ||| 4#32 ∧
      SameBut [.cmd, .status] { s with port := rest } t

/-- A step whose next event writes a command to CMD is `exec` of that command on the state in which CMD holds the word
and the event is gone (the list of events: log 1). -/
def Obligations.StepRunsTheCommand : Prop :=
  ∀ (s : State) (w : Word) (rest : List PortEvent) (i : Instr),
    s.port = .wr 0x10#8 w :: rest → decode w = .ok i → step s = exec i { s with port := rest, cmd := w }

/-- A host write to a writable register other than CMD stores the value and changes nothing else (R61, R62, R65). -/
def Obligations.HostWriteStores : Prop :=
  ∀ (s : State) (idx : PortIdx) (v : Word) (rest : List PortEvent) (r : Reg),
    s.port = .wr idx v :: rest → Reg.ofIndex idx = some r → r.access = .rw → r ≠ .cmd →
    ∃ t, step s = .next t ∧ t.get r = v ∧ SameBut [r] { s with port := rest } t

/-- A write to a read-only or unmapped index, and a read of an unmapped one, set ACC; the write changes no register,
the read returns 0 (R252). -/
def Obligations.RefusedAccessSetsAcc : Prop :=
  ∀ (s : State) (idx : PortIdx) (rest : List PortEvent),
    (∀ v, s.port = .wr idx v :: rest →
      (Reg.ofIndex idx = none ∨ ∃ r, Reg.ofIndex idx = some r ∧ r.access = .ro) →
      ∃ t, step s = .next t ∧ t.get .status = s.get .status ||| 8#32 ∧
        SameBut [.status] { s with port := rest } t) ∧
    (s.port = .rd idx :: rest → Reg.ofIndex idx = none →
      ∃ t, step s = .next t ∧ t.get .status = s.get .status ||| 8#32 ∧
        SameBut [.status] { s with port := rest, rdData := some 0 } t)

/-- A read of a mapped register returns its value and has no side effect (R61, R65; the returned word stands in the
model's own field `rdData`, log 3). -/
def Obligations.HostReadReturns : Prop :=
  ∀ (s : State) (idx : PortIdx) (rest : List PortEvent) (r : Reg),
    s.port = .rd idx :: rest → Reg.ofIndex idx = some r →
    ∃ t, step s = .next t ∧ SameBut [] { s with port := rest, rdData := some (s.get r) } t

/-- The register map: the unmapped indices, the writable ones, one index for each register, and the first register of
each group (R24, R66). -/
def Obligations.RegisterMapLayout : Prop :=
  (∀ idx : PortIdx, Reg.ofIndex idx = none ↔ ∃ p ∈ unmappedRanges, p.1 ≤ idx.toNat ∧ idx.toNat ≤ p.2) ∧
  (∀ (idx : PortIdx) (r : Reg), Reg.ofIndex idx = some r →
    (r.access = .rw ↔ idx.toNat ≤ 0x10 ∨ (0x18 ≤ idx.toNat ∧ idx.toNat ≤ 0x1F))) ∧
  (∀ (i j : PortIdx) (r : Reg), Reg.ofIndex i = some r → Reg.ofIndex j = some r → i = j) ∧
  (∀ r : Reg, ∃ i, Reg.ofIndex i = some r) ∧
  (∀ n : RegIdx, Reg.ofIndex (n.setWidth 8) = some (.x n)) ∧
  [0x10#8, 0x11#8, 0x18#8, 0x1E#8, 0x20#8, 0x24#8, 0x30#8, 0x3A#8, 0x40#8, 0x50#8, 0x60#8, 0x70#8].map Reg.ofIndex =
    [some .cmd, some .status, some .inIa, some .idRef, some .outCmpA, some .svmSector, some .focIalpha, some .slewVd,
     some .pid0Integ, some .pllTheta, some .stState, some .calVref]

/-- After reset every mapped register reads 0, whatever the configuration; the event reset does the same between two
transactions and leaves the parameters (R270, R271). -/
def Obligations.ResetReadsZero : Prop :=
  (∀ r : Reg, State.reset.get r = 0) ∧ (∀ (c : Config) (r : Reg), (State.resetWith c).get r = 0) ∧
  ∀ (s : State) (rest : List PortEvent), s.port = .reset :: rest →
    ∃ t, step s = .next t ∧ (∀ r : Reg, t.get r = 0) ∧ t.cfg = s.cfg

/-- Every transaction has one defined outcome: a step never faults and never refuses, takes one event, and leaves the
parameters. With no event pending the model's machine waits (log 1). -/
def Obligations.StepAlwaysCompletes : Prop :=
  ∀ s : State, ∃ t, step s = .next t ∧ t.cfg = s.cfg ∧ t.port = s.port.tail ∧ (s.port = [] → t = s)

/-! ### The fixed-point unit -/

/-- ADD writes the saturated exact sum (R100), SUB the saturated exact difference (R101). -/
def Obligations.AddSubSaturate : Prop :=
  ∀ (s : State) (rd rs1 rs2 : RegIdx),
    (Coded (.add rd rs1 rs2) 0x01#8 .d1s2 ∧ ∃ t, exec (.add rd rs1 rs2) s = .next t ∧
      (t.getX rd).toInt = saturated ((s.getX rs1).toInt + (s.getX rs2).toInt) ∧ SameBut [.x rd] s t) ∧
    (Coded (.sub rd rs1 rs2) 0x02#8 .d1s2 ∧ ∃ t, exec (.sub rd rs1 rs2) s = .next t ∧
      (t.getX rd).toInt = saturated ((s.getX rs1).toInt - (s.getX rs2).toInt) ∧ SameBut [.x rd] s t)

/-- MUL writes the exact product over 2^16, rounded to nearest with ties away from zero, saturated (R102). -/
def Obligations.MulRoundsAndSaturates : Prop :=
  ∀ (s : State) (rd rs1 rs2 : RegIdx), Coded (.mul rd rs1 rs2) 0x03#8 .d1s2 ∧
    ∃ t, exec (.mul rd rs1 rs2) s = .next t ∧
    IsProduct (s.getX rs1) (s.getX rs2) (t.getX rd) ∧ SameBut [.x rd] s t

/-- DIV writes the rounded, saturated quotient, and the extreme of the dividend's sign for a zero divisor (R103);
FROMFRAC the same quotient of two plain integers (R106). -/
def Obligations.DivFromfracRoundAndSaturate : Prop :=
  ∀ (s : State) (rd rs1 rs2 : RegIdx),
    (Coded (.div rd rs1 rs2) 0x04#8 .d1s2 ∧ ∃ t, exec (.div rd rs1 rs2) s = .next t ∧
      IsQuotient (s.getX rs1) (s.getX rs2) (t.getX rd) ∧ SameBut [.x rd] s t) ∧
    (Coded (.fromfrac rd rs1 rs2) 0x07#8 .d1s2 ∧ ∃ t, exec (.fromfrac rd rs1 rs2) s = .next t ∧
      IsQuotient (s.getX rs1) (s.getX rs2) (t.getX rd) ∧ SameBut [.x rd] s t)

/-- FROMINT saturates the scaled integer (R104); TOINT takes the floor (R105). -/
def Obligations.IntegerConversions : Prop :=
  ∀ (s : State) (rd rs1 : RegIdx),
    (Coded (.fromint rd rs1) 0x05#8 .d1s1 ∧ ∃ t, exec (.fromint rd rs1) s = .next t ∧
      (t.getX rd).toInt = saturated ((s.getX rs1).toInt * 65536) ∧ SameBut [.x rd] s t) ∧
    (Coded (.toint rd rs1) 0x06#8 .d1s1 ∧ ∃ t, exec (.toint rd rs1) s = .next t ∧
      (t.getX rd).toInt = (s.getX rs1).toInt / 65536 ∧ SameBut [.x rd] s t)

/-- WRAP corrects by one span of 2.0, without overflow (R107). -/
def Obligations.WrapCorrectsOnce : Prop :=
  ∀ (s : State) (rd rs1 : RegIdx), Coded (.wrap rd rs1) 0x08#8 .d1s1 ∧
    ∃ t, exec (.wrap rd rs1) s = .next t ∧
    IsWrapped (s.getX rs1) (t.getX rd) ∧ SameBut [.x rd] s t

/-- ASR is the floor of the value over a power of two; an amount outside 0..31 counts as 31 (R108). -/
def Obligations.AsrShiftsArithmetically : Prop :=
  ∀ (s : State) (rd rs1 rs2 : RegIdx), Coded (.asr rd rs1 rs2) 0x0A#8 .d1s2 ∧
    ∃ t, exec (.asr rd rs1 rs2) s = .next t ∧
    (∀ n : Nat, n ≤ 31 → (s.getX rs2).toInt = n → (t.getX rd).toInt = (s.getX rs1).toInt / 2 ^ n) ∧
    ((s.getX rs2).toInt < 0 ∨ 31 < (s.getX rs2).toInt → (t.getX rd).toInt = (s.getX rs1).toInt / 2 ^ 31) ∧
    SameBut [.x rd] s t

/-- Negating one operand of `mul` or `div` negates the result, but for MIN and saturated results (R110). -/
def Obligations.MulDivSymmetric : Prop :=
  ∀ a b : Word,
    (-2147483648 < (mul a b).toInt → (mul a b).toInt < 2147483647 →
      (a ≠ MIN → (mul (negSat a) b).toInt = -(mul a b).toInt) ∧
      (b ≠ MIN → (mul a (negSat b)).toInt = -(mul a b).toInt)) ∧
    (-2147483648 < (div a b).toInt → (div a b).toInt < 2147483647 →
      (a ≠ MIN → (div (negSat a) b).toInt = -(div a b).toInt) ∧
      (b ≠ MIN → (div a (negSat b)).toInt = -(div a b).toInt))

/-- `add_sat`, `sub_sat` in its first argument, `mul` by a non-negative constant and `div` by a positive constant are
non-decreasing (R110). -/
def Obligations.KernelMonotone : Prop :=
  ∀ a a' b : Word, a.toInt ≤ a'.toInt →
    (addSat a b).toInt ≤ (addSat a' b).toInt ∧ (subSat a b).toInt ≤ (subSat a' b).toInt ∧
    (0 ≤ b.toInt → (mul a b).toInt ≤ (mul a' b).toInt) ∧ (0 < b.toInt → (div a b).toInt ≤ (div a' b).toInt)

/-- One wrap restores the angle range exactly on (-3.0, 3.0], does nothing to a wrapped angle, corrects any increment
of magnitude at most 2.0, and does not change the sine and cosine (R107, R131, R276). -/
def Obligations.WrapKeepsAngleRange : Prop :=
  ∀ (c : Config) (a d : Word),
    (wrappedAngle (wrap a) ↔ -196608 < a.toInt ∧ a.toInt ≤ 196608) ∧
    (wrappedAngle a → wrap a = a) ∧
    (wrappedAngle a → -131072 ≤ d.toInt → d.toInt ≤ 131072 → wrappedAngle (wrap (addSat a d))) ∧
    sincos c (wrap a) = sincos c a

/-! ### Sine, cosine and the transforms -/

/-- SINCOS writes the pair of R131 to R134, the sine to rd, then the cosine to rd2 (R130). -/
def Obligations.SincosWritesThePair : Prop :=
  ∀ (s : State) (rd rd2 rs1 : RegIdx), Coded (.sincos rd rd2 rs1) 0x09#8 .d2s1 ∧
    ∃ t sn cs, exec (.sincos rd rd2 rs1) s = .next t ∧
    IsSincos s.cfg (s.getX rs1) sn cs ∧ t.getX rd2 = cs ∧ (rd ≠ rd2 → t.getX rd = sn) ∧
    SameBut [.x rd, .x rd2] s t

/-- The sine and cosine do not see whole turns (R131). -/
def Obligations.SincosIgnoresWholeTurns : Prop :=
  ∀ (c : Config) (a : Word) (k : Int), sincos c (a + BitVec.ofInt 32 (k * 65536)) = sincos c a

/-- The pair is exact at whole turns and at three quarters of a turn, for every table (R133, R135). -/
def Obligations.SincosExactOnBypass : Prop :=
  ∀ (c : Config) (a : Word),
    (a.toInt % 65536 = 0 → sincos c a = (0x00000000#32, 0x00010000#32)) ∧
    (a.toInt % 65536 = 49152 → sincos c a = (0xFFFF0000#32, 0x00000000#32))

/-- CLARKE (R140). -/
def Obligations.ClarkeTransforms : Prop :=
  ∀ (s : State) (rd rd2 rs1 rs2 : RegIdx), Coded (.clarke rd rd2 rs1 rs2) 0x10#8 .d2s2 ∧
    ∃ t al be, exec (.clarke rd rd2 rs1 rs2) s = .next t ∧
    IsClarke (s.getX rs1) (s.getX rs2) al be ∧ t.getX rd2 = be ∧ (rd ≠ rd2 → t.getX rd = al) ∧
    SameBut [.x rd, .x rd2] s t

/-- ICLARKE: of destinations that coincide the later write wins (R141, R87). -/
def Obligations.IclarkeTransforms : Prop :=
  ∀ (s : State) (rd rd2 rd3 rs1 rs2 : RegIdx), Coded (.iclarke rd rd2 rd3 rs1 rs2) 0x11#8 .d3s2 ∧
    ∃ t a b c, exec (.iclarke rd rd2 rd3 rs1 rs2) s = .next t ∧
    IsIclarke (s.getX rs1) (s.getX rs2) a b c ∧ t.getX rd3 = c ∧ (rd2 ≠ rd3 → t.getX rd2 = b) ∧
    (rd ≠ rd2 → rd ≠ rd3 → t.getX rd = a) ∧ SameBut [.x rd, .x rd2, .x rd3] s t

/-- PARK by the sine and cosine of its angle (R142). -/
def Obligations.ParkRotates : Prop :=
  ∀ (s : State) (rd rd2 rs1 rs2 rs3 : RegIdx), Coded (.park rd rd2 rs1 rs2 rs3) 0x12#8 .d2s3 ∧
    ∃ t sn cs d q, exec (.park rd rd2 rs1 rs2 rs3) s = .next t ∧
    IsSincos s.cfg (s.getX rs3) sn cs ∧ IsPark (s.getX rs1) (s.getX rs2) sn cs d q ∧
    t.getX rd2 = q ∧ (rd ≠ rd2 → t.getX rd = d) ∧ SameBut [.x rd, .x rd2] s t

/-- IPARK by the sine and cosine of its angle (R143). -/
def Obligations.IparkRotatesBack : Prop :=
  ∀ (s : State) (rd rd2 rs1 rs2 rs3 : RegIdx), Coded (.ipark rd rd2 rs1 rs2 rs3) 0x13#8 .d2s3 ∧
    ∃ t sn cs al be, exec (.ipark rd rd2 rs1 rs2 rs3) s = .next t ∧
    IsSincos s.cfg (s.getX rs3) sn cs ∧ IsIpark (s.getX rs1) (s.getX rs2) sn cs al be ∧
    t.getX rd2 = be ∧ (rd ≠ rd2 → t.getX rd = al) ∧ SameBut [.x rd, .x rd2] s t

/-- At an angle of whole turns the inverse Park transform undoes the Park transform exactly (R145). -/
def Obligations.ParkRoundTripAtZero : Prop :=
  ∀ (c : Config) (al be a : Word), a.toInt % 65536 = 0 →
    let sc := sincos c a
    let dq := parkSc al be sc.1 sc.2
    iparkSc dq.1 dq.2 sc.1 sc.2 = (al, be)

/-! ### Regulators -/

/-- PID0, PID1 and PID2 step their own instance and write its output (R150, R151). -/
def Obligations.PidSteps : Prop :=
  ∀ (s : State) (rd rs1 rs2 rs3 : RegIdx),
    (Coded (.pid0 rd rs1 rs2 rs3) 0x20#8 .d1s3 ∧ ∃ t, exec (.pid0 rd rs1 rs2 rs3) s = .next t ∧
      IsPid s.cfg.pid0 s.pid0 (s.getX rs1) (s.getX rs2) (s.getX rs3) (t.getX rd) t.pid0 ∧
      SameBut [.x rd, .pid0Integ, .pid0Prev] s t) ∧
    (Coded (.pid1 rd rs1 rs2 rs3) 0x21#8 .d1s3 ∧ ∃ t, exec (.pid1 rd rs1 rs2 rs3) s = .next t ∧
      IsPid s.cfg.pid1 s.pid1 (s.getX rs1) (s.getX rs2) (s.getX rs3) (t.getX rd) t.pid1 ∧
      SameBut [.x rd, .pid1Integ, .pid1Prev] s t) ∧
    (Coded (.pid2 rd rs1 rs2 rs3) 0x22#8 .d1s3 ∧ ∃ t, exec (.pid2 rd rs1 rs2 rs3) s = .next t ∧
      IsPid s.cfg.pid2 s.pid2 (s.getX rs1) (s.getX rs2) (s.getX rs3) (t.getX rd) t.pid2 ∧
      SameBut [.x rd, .pid2Integ, .pid2Prev] s t)

/-- With bounds in order a PID output lies between them, whatever the operands (R150). -/
def Obligations.PidOutputBounded : Prop :=
  ∀ (c : PidCfg) (r : PidRegs) (sp meas dt : Word), c.boundsOk = true →
    c.outMin.toInt ≤ (pid c r sp meas dt).1.toInt ∧ (pid c r sp meas dt).1.toInt ≤ c.outMax.toInt

/-- The integrator stops growing once the output clamps: after a call clamped at the maximum with a steady
measurement, the same call again changes nothing and gives the maximum again (R152). -/
def Obligations.AntiWindupHolds : Prop :=
  ∀ (c : PidCfg) (r : PidRegs) (sp meas dt : Word), r.prev = meas →
    c.outMax.toInt <
      (addSat (addSat (mul c.kp (subSat sp meas)) (pidDeriv c r meas dt)) (pidCandidate c r sp meas dt)).toInt →
    pid c (pid c r sp meas dt).2 sp meas dt = (c.outMax, (pid c r sp meas dt).2)

/-- SLEWD and SLEWQ move the previous output toward the target by at most the step; they touch only rd (R153, R154). -/
def Obligations.SlewSteps : Prop :=
  ∀ (s : State) (rd rs1 rs2 rs3 : RegIdx),
    (Coded (.slewd rd rs1 rs2 rs3) 0x24#8 .d1s3 ∧ ∃ t, exec (.slewd rd rs1 rs2 rs3) s = .next t ∧
      IsSlew s.cfg.slew0 (s.getX rs1) (s.getX rs2) (s.getX rs3) (t.getX rd) ∧ SameBut [.x rd] s t) ∧
    (Coded (.slewq rd rs1 rs2 rs3) 0x25#8 .d1s3 ∧ ∃ t, exec (.slewq rd rs1 rs2 rs3) s = .next t ∧
      IsSlew s.cfg.slew1 (s.getX rs1) (s.getX rs2) (s.getX rs3) (t.getX rd) ∧ SameBut [.x rd] s t)

/-- The limiter never overshoots, never moves away from the target, and never moves by more than its step, for a step
that is not MAX (R153). -/
def Obligations.SlewNeverOvershoots : Prop :=
  ∀ (c : SlewCfg) (prev target dt : Word),
    let out := (slew c prev target dt).toInt
    (prev.toInt ≤ target.toInt → prev.toInt ≤ out ∧ out ≤ target.toInt ∧
      ((mul c.up dt).toInt < 2147483647 → out - prev.toInt ≤ max 0 (mul c.up dt).toInt)) ∧
    (target.toInt ≤ prev.toInt → target.toInt ≤ out ∧ out ≤ prev.toInt ∧
      ((mul c.dn dt).toInt < 2147483647 → prev.toInt - out ≤ max 0 (mul c.dn dt).toInt))

/-- SSTEP writes the new gain to rd and to SS_GAIN (R156, R157). -/
def Obligations.SoftStartSteps : Prop :=
  ∀ (s : State) (rd rs1 rs2 : RegIdx), Coded (.sstep rd rs1 rs2) 0x26#8 .d1s2 ∧
    ∃ t, exec (.sstep rd rs1 rs2) s = .next t ∧
    IsSoftStart s.cfg.ssRise s.ssGain (s.getX rs1 ≠ 0) (s.getX rs2) t.ssGain ∧ t.getX rd = t.ssGain ∧
    SameBut [.x rd, .ssGain] s t

/-! ### Observer, current loop, space-vector PWM -/

/-- PLLSTEP steps the observer, leaves its angle, and writes speed to rd, then the squared back-EMF to rd2 (R170, R171,
R173). -/
def Obligations.PllstepSteps : Prop :=
  ∀ (s : State) (rd rd2 rs1 rs2 rs3 rs4 : RegIdx), Coded (.pllstep rd rd2 rs1 rs2 rs3 rs4) 0x30#8 .d2s4 ∧
    ∃ t, exec (.pllstep rd rd2 rs1 rs2 rs3 rs4) s = .next t ∧
    IsPllStep s.cfg s.pll (s.getX rs1) (s.getX rs2) (s.getX rs3) (s.getX rs4) t.pll ∧
    t.getX rd2 = t.pll.emag2 ∧ (rd ≠ rd2 → t.getX rd = t.pll.omega) ∧
    SameBut ([.x rd, .x rd2] ++ pllStepRegs) s t

/-- The speed never exceeds its upper bound; the lower bound holds with P_PLL_LOWER_CLAMP and is never read without;
the integrator is held on both sides (R170, R172). -/
def Obligations.PllBounds : Prop :=
  ∀ (c : Config) (p : PllRegs) (va vb ia ib : Word),
    (c.pllSpeedOk = true → (pllStep c p va vb ia ib).omega.toInt ≤ c.pllWMax.toInt) ∧
    (c.pllSpeedOk = true → c.pllLowerClamp = true → c.pllWMin.toInt ≤ (pllStep c p va vb ia ib).omega.toInt) ∧
    (c.pllLowerClamp = false → ∀ m, pllStep { c with pllWMin := m } p va vb ia ib = pllStep c p va vb ia ib) ∧
    (c.pllIntegOk = true → c.pllIMin.toInt ≤ (pllStep c p va vb ia ib).integ.toInt ∧
      (pllStep c p va vb ia ib).integ.toInt ≤ c.pllIMax.toInt)

/-- FOCSTEP runs the current loop on its operands and writes the voltage command (R180, R181). -/
def Obligations.FocstepSteps : Prop :=
  ∀ (s : State) (rd rd2 rs1 rs2 rs3 : RegIdx), Coded (.focstep rd rd2 rs1 rs2 rs3) 0x31#8 .d2s3 ∧
    ∃ t, exec (.focstep rd rd2 rs1 rs2 rs3) s = .next t ∧
    IsFocStep s (s.getX rs1) (s.getX rs2) (s.getX rs3) t ∧
    t.getX rd2 = t.foc.vbeta ∧ (rd ≠ rd2 → t.getX rd = t.foc.valpha) ∧
    SameBut ([.x rd, .x rd2] ++ focStepRegs) s t

/-- SVPWM writes the eleven output registers, in every startup state and whatever STATUS says (R185 to R192). -/
def Obligations.SvpwmWritesOutputs : Prop :=
  ∀ (s : State) (rs1 rs2 : RegIdx), Coded (.svpwm rs1 rs2) 0x32#8 .s2 ∧
    ∃ t, exec (.svpwm rs1 rs2) s = .next t ∧
    IsSvpwm s.cfg (s.getX rs1) (s.getX rs2) t.out ∧ SameBut outRegs s t

/-- For every voltage command the duties and times lie in [0, ONE], the times add up to ONE, the sector is 1 to 6 and
the compare values and the marker lie in [0, PWM_MAX] (R188, R189, R190, R193). -/
def Obligations.SvpwmRanges : Prop :=
  ∀ (c : Config) (al be : Word), c.pwmMaxOk = true → svpwm c al be ≠ .zero ∧ (svpwm c al be).Ok c

/-- In the linear range no clamp acts: each duty is its phase above the smallest, centred (R187). -/
def Obligations.DutiesLinear : Prop :=
  ∀ (va vb vc : Word),
    let m := min (min va.toInt vb.toInt) vc.toInt
    let h := max (max va.toInt vb.toInt) vc.toInt
    h - m ≤ 65536 →
      let d := duties va vb vc
      d.1.toInt = va.toInt - m + (65536 - (h - m)) / 2 ∧ d.2.1.toInt = vb.toInt - m + (65536 - (h - m)) / 2 ∧
        d.2.2.toInt = vc.toInt - m + (65536 - (h - m)) / 2

/-! ### Startup machine, tick, faults -/

/-- REINIT zeroes every register of index 0x1E .. 0x65 and nothing else (R200). -/
def Obligations.ReinitZeroesController : Prop :=
  ∀ s : State, Coded .reinit 0x36#8 .z ∧
    ∃ t, exec .reinit s = .next t ∧ (∀ r ∈ reinitRegs, t.get r = 0) ∧ SameBut reinitRegs s t

/-- STINIT re-initialises, enters ALIGN, presets ID_REF and clears OC and SAFE_STOP, in every state (R201). -/
def Obligations.StinitEntersAlign : Prop :=
  ∀ s : State, Coded .stinit 0x33#8 .z ∧
    ∃ t, exec .stinit s = .next t ∧ t.get .stState = 1 ∧ t.get .idRef = s.cfg.stAlignId ∧
    (∀ r ∈ reinitRegs, r ≠ .stState → r ≠ .idRef → t.get r = 0) ∧
    t.get .status = s.get .status &&& 0xFFFFFFFC#32 ∧ SameBut (.status :: reinitRegs) s t

/-- STTICK makes one update of the startup machine and writes the selected angle to rd (R202 to R209). That
the BLEND update gives IQ_REF the value of ST_IQ_OL is the model's reading of R29 (log 13). -/
def Obligations.SttickUpdatesStartup : Prop :=
  ∀ (s : State) (rd rs1 rs2 rs3 : RegIdx), Coded (.sttick rd rs1 rs2 rs3) 0x34#8 .d1s3 ∧
    ∃ s2 t ang, exec (.sttick rd rs1 rs2 rs3) s = .next t ∧
    IsStUpdate s (s.getX rs1) (s.getX rs2) (s.getX rs3) s2 ∧ IsAngle s2 (s.getX rs3) ang ∧
    t.getX rd = ang ∧ SameBut [.x rd] s2 t

/-- A TICK that finds a phase current beyond the ceiling re-initialises, sets OC and SAFE_STOP and does no more, in
every state (R211). -/
def Obligations.TickTripsOnOverCurrent : Prop :=
  ∀ s : State, s.PhaseOverCurrent → ∃ t, exec .tick s = .next t ∧ (∀ r ∈ reinitRegs, t.get r = 0) ∧
    t.get .status = s.get .status ||| 3#32 ∧ SameBut (.status :: reinitRegs) s t

/-- Without a trip a TICK in STOP zeroes the outputs; in FAIL it also zeroes the references and sets SAFE_STOP
(R213). -/
def Obligations.TickInStopAndFail : Prop :=
  ∀ s : State, ¬s.PhaseOverCurrent →
    (s.get .stState = 0 → ∃ t, exec .tick s = .next t ∧ (∀ r ∈ outRegs, t.get r = 0) ∧ SameBut outRegs s t) ∧
    (s.get .stState = 5 → ∃ t, exec .tick s = .next t ∧ (∀ r ∈ .idRef :: .iqRef :: outRegs, t.get r = 0) ∧
      t.get .status = s.get .status ||| 2#32 ∧ SameBut (.status :: .idRef :: .iqRef :: outRegs) s t)

/-- Without a trip a TICK in ALIGN, RAMP, BLEND or RUN observes, updates the startup machine, and then either stops
safely (FAIL reached, R214) or runs the current loop and the SVPWM stage (R212). That the tick which reaches FAIL has
latched FOC_VBUS, and that the BLEND update writes IQ_REF, are the model's readings (log 9, log 13). -/
def Obligations.TickRunsThePipeline : Prop :=
  ∀ s : State, ¬s.PhaseOverCurrent → s.get .stState ≠ 0 → s.get .stState ≠ 5 →
    ∃ s1 s2 t ang, exec .tick s = .next t ∧ IsObserved s s1 ∧
      IsStUpdate s1 s1.pll.omega s1.pll.emag2 s1.pll.theta s2 ∧ IsAngle s2 s1.pll.theta ang ∧
      (s2.get .stState = 5 → (∀ r ∈ outRegs, t.get r = 0) ∧ t.get .status = s.get .status ||| 2#32 ∧
        SameBut (.status :: outRegs) s2 t) ∧
      (s2.get .stState ≠ 5 → IsFocStep s2 s.inp.ia s.inp.ib ang t ∧
        IsSvpwm s.cfg t.foc.valpha t.foc.vbeta t.out ∧ SameBut (focStepRegs ++ outRegs) s2 t)

/-- A TICK always completes and never touches a general register, CMD, an input, the calibrator, ILL or ACC; nor does it
read a general register: another value in one gives the same tick (R72, R210, R233). -/
def Obligations.TickFrame : Prop :=
  ∀ s : State, ∃ t, exec .tick s = .next t ∧ SameBut (.status :: reinitRegs) s t ∧
    t.get .status &&& 0xFFFFFFFC#32 = s.get .status &&& 0xFFFFFFFC#32 ∧
    ∀ (n : RegIdx) (v : Word), exec .tick (s.setX n v) = .next (t.setX n v)

/-- After a TICK that leaves the machine in STOP or FAIL all duties are zero, and in FAIL or after a trip SAFE_STOP is
set: the safe-stop output (R255, R256, R266). -/
def Obligations.FaultsEndInSafeStop : Prop :=
  ∀ s : State, ∃ t, exec .tick s = .next t ∧ (t.st.state = .stop → t.OutputsZero) ∧
    (t.st.state = .fail → t.SafeStop) ∧ (s.PhaseOverCurrent → t.SafeStop)

/-! ### Calibrator and system commands -/

/-- CALINIT stores its operands, sets the nominal estimate and clears CAL_VALID (R230). That the estimate of a full
scale of 0 is the signed extreme is the model's reading of R254 (log 7). -/
def Obligations.CalinitStarts : Prop :=
  ∀ (s : State) (rs1 rs2 : RegIdx), Coded (.calinit rs1 rs2) 0x40#8 .s2 ∧
    ∃ t, exec (.calinit rs1 rs2) s = .next t ∧
    t.get .calVref = s.getX rs1 ∧ t.get .calAlpha = s.getX rs2 ∧ t.get .calValid = 0 ∧
    IsRounded s.cfg.calDefaultSupply.toInt s.cfg.calFullScale.toInt (t.get .calVpc) ∧
    SameBut [.calVref, .calAlpha, .calVpc, .calValid] s t

/-- CALUPD skips a non-positive count; otherwise it blends the instantaneous estimate and sets CAL_VALID (R231). That
the estimate of a full scale of 0 is the signed extreme is the model's reading of R254 (log 7). -/
def Obligations.CalupdBlends : Prop :=
  ∀ (s : State) (rs1 : RegIdx), Coded (.calupd rs1) 0x41#8 .s1 ∧
    ∃ t, exec (.calupd rs1) s = .next t ∧
    ((s.getX rs1).toInt ≤ 0 → SameBut [] s t) ∧
    (0 < (s.getX rs1).toInt → t.get .calValid = 1) ∧
    (0 < (s.getX rs1).toInt →
      ∃ (q1 : Int) (inst rest p1 p2 : Word),
        RoundsTo (s.cal.vref.toInt * s.cfg.calFullScale.toInt) (s.getX rs1).toInt q1 ∧
        IsRounded q1 s.cfg.calFullScale.toInt inst ∧
        rest.toInt = saturated (65536 - s.cal.alpha.toInt) ∧ IsProduct rest s.cal.vpc p1 ∧
        IsProduct s.cal.alpha inst p2 ∧ IsSum p1 p2 (t.get .calVpc)) ∧
    SameBut [.calVpc, .calValid] s t

/-- NOP changes nothing, and written to CMD it changes CMD alone; its one word is 0 (R240). -/
def Obligations.NopChangesNothing : Prop :=
  Coded .nop 0x00#8 .z ∧ (∀ w : Word, decode w = .ok .nop ↔ w = 0) ∧ (∀ s : State, exec .nop s = .next s) ∧
  ∀ (s : State) (rest : List PortEvent), s.port = .wr 0x10#8 0#32 :: rest →
    ∃ t, step s = .next t ∧ t.get .cmd = 0 ∧ SameBut [.cmd] { s with port := rest } t

/-- CLRSTAT clears ILL and ACC and nothing else (R241). -/
def Obligations.ClrstatClearsDiagnostics : Prop :=
  ∀ s : State, Coded .clrstat 0x37#8 .z ∧
    ∃ t, exec .clrstat s = .next t ∧ t.get .status = s.get .status &&& 0xFFFFFFF3#32 ∧
    SameBut [.status] s t

/-! ### Whole-machine rules -/

/-- The values 93 I15 names are never produced: every step keeps them out (R26, R31, R36, R37). -/
def Obligations.ReservedValuesNeverProduced : Prop :=
  ∀ s t : State, s.ReservedOk → step s = .next t → t.ReservedOk

/-- Every step keeps the gain in [0, ONE] and the outputs either zeroed or in their ranges with times that add up to
one carrier period (R30, R31, R33, R193). -/
def Obligations.OutputRangesKept : Prop :=
  ∀ s t : State, s.RangesOk → step s = .next t → t.RangesOk

/-- Every step keeps the forced angle wrapped and its step within 2.0 (R17, R204, R276). -/
def Obligations.ForcedAngleKept : Prop :=
  ∀ s t : State, s.ForcedAngleOk → step s = .next t → t.ForcedAngleOk

/-- The three invariants hold after reset, for every configuration inside R6's constraints; the first for the machine's
own. -/
def Obligations.InvariantsHoldAtReset : Prop :=
  State.reset.ReservedOk ∧
  ∀ c : Config, c.WellFormed = true →
    (State.resetWith c).ReservedOk ∧ (State.resetWith c).RangesOk ∧ (State.resetWith c).ForcedAngleOk

/-- Every step that changes the startup state takes one of the arrows of R215: a forward arrow, to STOP by REINIT, a
TICK or reset, to ALIGN by STINIT. -/
def Obligations.StartupArrows : Prop :=
  ∀ (s t : State) (e : PortEvent) (rest : List PortEvent), s.port = e :: rest → step s = .next t →
    t.st.state = s.st.state ∨ (s.st.state, t.st.state) ∈ forwardArrows ∨
    (t.st.state = .stop ∧ (e = .reset ∨ e.Commands .reinit ∨ (e.Commands .tick ∧ s.PhaseOverCurrent))) ∨
    (t.st.state = .align ∧ e.Commands .stinit)

/-- The bits of STATUS are sticky: OC and SAFE_STOP are cleared by STINIT and reset alone, ILL and ACC by CLRSTAT and
reset alone (R27, R250). -/
def Obligations.StatusBitsSticky : Prop :=
  ∀ (s t : State) (e : PortEvent) (rest : List PortEvent) (c : Cond), s.port = e :: rest → step s = .next t →
    statusBit s.status c = true → statusBit t.status c = false →
    e = .reset ∨ ((c = .oc ∨ c = .safeStop) ∧ e.Commands .stinit) ∨ ((c = .ill ∨ c = .acc) ∧ e.Commands .clrstat)

/-- No command writes an input register or CMD, and none but CALINIT and CALUPD writes a calibrator register (R28,
R37). -/
def Obligations.CommandsLeaveInputsAndCalibrator : Prop :=
  ∀ (i : Instr) (s : State), ∃ t, exec i s = .next t ∧ t.inp = s.inp ∧ t.cmd = s.cmd ∧ t.cfg = s.cfg ∧
    t.port = s.port ∧ t.rdData = s.rdData ∧
    ((∀ rs1 rs2, i ≠ .calinit rs1 rs2) → (∀ rs1, i ≠ .calupd rs1) → t.cal = s.cal)
end

