-- ==== Sys2Proof/Laws/FixedPoint.lean ====
section
/-! SUPPORT. What each shared fixed-point operation computes, as integers. -/

namespace Sys2Proof

set_option Elab.async false

theorem toInt_lower (w : Word) : -2147483648 ≤ w.toInt := by
  have := BitVec.le_toInt w
  simpa using this

theorem toInt_upper (w : Word) : w.toInt ≤ 2147483647 := by
  have := BitVec.toInt_lt (x := w)
  norm_num at this
  omega

theorem saturated_lower (v : Int) : -2147483648 ≤ saturated v := by
  unfold saturated
  omega

theorem saturated_upper (v : Int) : saturated v ≤ 2147483647 := by
  unfold saturated
  omega

theorem saturated_of_mem (v : Int) (h1 : -2147483648 ≤ v) (h2 : v ≤ 2147483647) : saturated v = v := by
  unfold saturated
  omega

theorem saturated_mono (v w : Int) (h : v ≤ w) : saturated v ≤ saturated w := by
  unfold saturated
  omega

namespace Machine

theorem toInt_ofInt_of_mem (v : Int) (h1 : -2147483648 ≤ v) (h2 : v ≤ 2147483647) :
    (BitVec.ofInt 32 v).toInt = v := by
  rw [BitVec.toInt_ofInt]
  exact Int.bmod_eq_of_le (by norm_num; omega) (by norm_num; omega)

@[simp] theorem sat32_toInt (v : Int) : (sat32 v).toInt = saturated v := by
  unfold sat32 maxInt minInt saturated
  rw [toInt_ofInt_of_mem] <;> (split <;> try split) <;> omega

@[simp] theorem addSat_toInt (a b : Word) : (addSat a b).toInt = saturated (a.toInt + b.toInt) := sat32_toInt _

@[simp] theorem subSat_toInt (a b : Word) : (subSat a b).toInt = saturated (a.toInt - b.toInt) := sat32_toInt _

@[simp] theorem negSat_toInt (a : Word) : (negSat a).toInt = saturated (-a.toInt) := sat32_toInt _

theorem absSat_toInt (a : Word) : (absSat a).toInt = min 2147483647 (a.toInt.natAbs : Int) := by
  have h1 := toInt_lower a
  have h2 := toInt_upper a
  unfold absSat
  split
  · rw [sat32_toInt]
    unfold saturated
    omega
  · omega

theorem rdiv_of_ne (n d : Int) (h : d ≠ 0) :
    rdiv n d = if (decide (n < 0)).xor (decide (d < 0)) then
        -(((n.natAbs + d.natAbs / 2) / d.natAbs : Nat) : Int)
      else (((n.natAbs + d.natAbs / 2) / d.natAbs : Nat) : Int) := by
  unfold rdiv
  rw [if_neg h]

theorem rdiv_by_zero (n : Int) : rdiv n 0 = if n ≥ 0 then maxInt else minInt := rfl

/-- Two roundings of one quotient agree. -/
theorem RoundsTo.unique {n d q r : Int} (hq : RoundsTo n d q) (hr : RoundsTo n d r) : q = r := by
  wlog hqr : q < r generalizing q r
  · by_contra hne
    exact hne (this hr hq (by omega)).symm
  exfalso
  obtain ⟨hq1, hq2⟩ := hq
  obtain ⟨hr1, hr2⟩ := hr
  have key : (r * d - q * d).natAbs = (r - q).natAbs * d.natAbs := by
    rw [← Int.natAbs_mul]
    congr 1
    ring
  rcases (by omega : r = q + 1 ∨ 2 ≤ (r - q).natAbs) with rfl | h2
  · have hsign : 0 ≤ q * d ∧ 0 ≤ (q + 1) * d ∨ q * d ≤ 0 ∧ (q + 1) * d ≤ 0 := by
      rcases le_or_gt 0 q with h | h <;> rcases le_or_gt 0 d with h' | h'
      · exact .inl ⟨mul_nonneg h h', mul_nonneg (by omega) h'⟩
      · exact .inr ⟨mul_nonpos_of_nonneg_of_nonpos h h'.le, mul_nonpos_of_nonneg_of_nonpos (by omega) h'.le⟩
      · exact .inr ⟨mul_nonpos_of_nonpos_of_nonneg h.le h', mul_nonpos_of_nonpos_of_nonneg (by omega) h'⟩
      · exact .inl ⟨mul_nonneg_of_nonpos_of_nonpos h.le h'.le, mul_nonneg_of_nonpos_of_nonpos (by omega) h'.le⟩
    have hstep : (q + 1) * d = q * d + d := by ring
    omega
  · have : 2 * d.natAbs ≤ (r - q).natAbs * d.natAbs := Nat.mul_le_mul_right _ h2
    omega

/-- `rdiv` rounds to the nearest integer, ties away from zero (R10). -/
theorem rdiv_roundsTo (n d : Int) (h : d ≠ 0) : RoundsTo n d (rdiv n d) := by
  rw [rdiv_of_ne n d h]
  generalize hk : (n.natAbs + d.natAbs / 2) / d.natAbs = k
  have hlo : k * d.natAbs ≤ n.natAbs + d.natAbs / 2 := by
    rw [← hk]
    exact Nat.div_mul_le_self _ _
  have hhi : n.natAbs + d.natAbs / 2 < k * d.natAbs + d.natAbs := by
    have := Nat.lt_div_mul_add (a := n.natAbs + d.natAbs / 2) (b := d.natAbs) (by omega)
    rwa [hk] at this
  have habs : ((k : Int) * d).natAbs = k * d.natAbs := by rw [Int.natAbs_mul, Int.natAbs_natCast]
  have hneg : -(k : Int) * d = -((k : Int) * d) := by ring
  have hpos : 0 < d → 0 ≤ (k : Int) * d := fun h' => mul_nonneg (by omega) h'.le
  have hnon : d < 0 → (k : Int) * d ≤ 0 := fun h' => mul_nonpos_of_nonneg_of_nonpos (by omega) h'.le
  unfold RoundsTo
  rcases lt_or_ge n 0 with hn | hn <;> rcases lt_or_ge d 0 with hd | hd <;>
    simp only [hn, hd, not_lt.mpr, decide_true, decide_false, Bool.xor_true, Bool.xor_false, Bool.not_true,
      Bool.not_false, if_true, if_false, Bool.false_eq_true, hneg] <;>
    generalize (k : Int) * d = m at * <;> generalize k * d.natAbs = j at * <;>
    constructor <;> (try intro) <;> omega

/-- All that a saturated `rdiv` can answer (R10, R9, R254). -/
theorem sat32_rdiv_isRounded (n d : Int) : IsRounded n d (sat32 (rdiv n d)) := by
  refine ⟨fun h => ⟨rdiv n d, rdiv_roundsTo n d h, sat32_toInt _⟩, ?_, ?_⟩ <;> rintro rfl hn <;>
    simp [rdiv_by_zero, hn, not_le.mpr, maxInt, minInt, saturated]

/-- The integer an arithmetic shift gives is a word again. -/
theorem asrWord_toInt (v : Word) (n : Nat) : (asrWord v n).toInt = v.toInt / 2 ^ n := by
  have h1 := toInt_lower v
  have h2 := toInt_upper v
  have hp : (1 : Int) ≤ 2 ^ n := one_le_pow₀ (by norm_num)
  unfold asrWord asrInt
  apply toInt_ofInt_of_mem
  · rw [Int.le_ediv_iff_mul_le (by omega)]
    nlinarith
  · apply Int.ediv_le_of_le_mul (by omega)
    nlinarith

theorem wrap_toInt (a : Word) :
    (wrap a).toInt =
      if a.toInt > 65536 then a.toInt - 131072 else if a.toInt ≤ -65536 then a.toInt + 131072 else a.toInt := by
  have h1 := toInt_lower a
  have h2 := toInt_upper a
  unfold wrap
  split
  · exact toInt_ofInt_of_mem _ (by omega) (by omega)
  · split
    · exact toInt_ofInt_of_mem _ (by omega) (by omega)
    · rfl

/-- A clamped word lies between its bounds, where they are in order. -/
theorem clamp_mem (v lo hi : Word) (h : lo.toInt ≤ hi.toInt) :
    lo.toInt ≤ (clamp v lo hi).toInt ∧ (clamp v lo hi).toInt ≤ hi.toInt := by
  unfold clamp
  split
  · omega
  · split <;> omega

/-- `approach` ends between the value and the target, when the step is not negative. -/
theorem approach_between (x target step : Word) (h : 0 ≤ step.toInt) :
    min x.toInt target.toInt ≤ (approach x target step).toInt ∧
      (approach x target step).toInt ≤ max x.toInt target.toInt := by
  have h1 := toInt_lower x
  have h2 := toInt_upper x
  simp only [approach]
  split
  · split
    · omega
    · rename_i hy
      rw [addSat_toInt] at hy ⊢
      unfold saturated at hy ⊢
      omega
  · split
    · split
      · omega
      · rename_i hy
        rw [subSat_toInt] at hy ⊢
        unfold saturated at hy ⊢
        omega
    · omega

end Machine
end Sys2Proof
end

