-- ==== Sys2Proof/Laws/PerInstr.lean ====
section
/-! SUPPORT. Laws made of one lemma for each constructor of Instr. -/

namespace Sys2Proof.Laws

set_option Elab.async false

/-- Masking packed fields bit by bit: a field under a mask of ones stays, under a mask of zeros it goes. -/
theorem packFields_and (op p : BitVec 8) (rd rd2 a b c d q1 q2 q3 q4 q5 q6 : RegIdx) :
    packFields op rd rd2 a b c d &&& packFields p q1 q2 q3 q4 q5 q6 =
      packFields (op &&& p) (rd &&& q1) (rd2 &&& q2) (a &&& q3) (b &&& q4) (c &&& q5) (d &&& q6) :=
  BitVec.and_append.trans (congrArg (· ++ (d &&& q6)) (BitVec.and_append.trans (congrArg (· ++ (c &&& q5))
    (BitVec.and_append.trans (congrArg (· ++ (b &&& q4)) (BitVec.and_append.trans (congrArg (· ++ (a &&& q3))
      (BitVec.and_append.trans (congrArg (· ++ (rd2 &&& q2)) BitVec.and_append)))))))))

/-- The opcode at the top of a word of zeros is the opcode shifted into its place. -/
theorem packFields_opcode (op : BitVec 8) : packFields op 0 0 0 0 0 0 = op.setWidth 32 <<< 24 := by
  revert op
  decide

namespace FormatMask

/-- The encoding of a command under its format's mask is the opcode alone (R82). -/
def Statement (i : Instr) : Prop := encode i &&& i.format.mask = i.opcode.setWidth 32 <<< 24

theorem mask_z : Format.mask .z = packFields 0xFF 0xF 0xF 0xF 0xF 0xF 0xF := by decide
theorem mask_s1 : Format.mask .s1 = packFields 0xFF 0xF 0xF 0 0xF 0xF 0xF := by decide
theorem mask_s2 : Format.mask .s2 = packFields 0xFF 0xF 0xF 0 0 0xF 0xF := by decide
theorem mask_d1s1 : Format.mask .d1s1 = packFields 0xFF 0 0xF 0 0xF 0xF 0xF := by decide
theorem mask_d1s2 : Format.mask .d1s2 = packFields 0xFF 0 0xF 0 0 0xF 0xF := by decide
theorem mask_d1s3 : Format.mask .d1s3 = packFields 0xFF 0 0xF 0 0 0 0xF := by decide
theorem mask_d2s1 : Format.mask .d2s1 = packFields 0xFF 0 0 0 0xF 0xF 0xF := by decide
theorem mask_d2s2 : Format.mask .d2s2 = packFields 0xFF 0 0 0 0 0xF 0xF := by decide
theorem mask_d3s2 : Format.mask .d3s2 = packFields 0xFF 0 0 0 0 0 0xF := by decide
theorem mask_d2s3 : Format.mask .d2s3 = packFields 0xFF 0 0 0 0 0 0xF := by decide
theorem mask_d2s4 : Format.mask .d2s4 = packFields 0xFF 0 0 0 0 0 0 := by decide

theorem nop : Statement .nop := by
  rw [Statement, ← packFields_opcode]
  simp [encode, Instr.format, Instr.opcode, mask_z, packFields_and]
theorem add (rd rs1 rs2 : RegIdx) : Statement (.add rd rs1 rs2) := by
  rw [Statement, ← packFields_opcode]
  simp [encode, Instr.format, Instr.opcode, mask_d1s2, packFields_and]
theorem sub (rd rs1 rs2 : RegIdx) : Statement (.sub rd rs1 rs2) := by
  rw [Statement, ← packFields_opcode]
  simp [encode, Instr.format, Instr.opcode, mask_d1s2, packFields_and]
theorem mul (rd rs1 rs2 : RegIdx) : Statement (.mul rd rs1 rs2) := by
  rw [Statement, ← packFields_opcode]
  simp [encode, Instr.format, Instr.opcode, mask_d1s2, packFields_and]
theorem div (rd rs1 rs2 : RegIdx) : Statement (.div rd rs1 rs2) := by
  rw [Statement, ← packFields_opcode]
  simp [encode, Instr.format, Instr.opcode, mask_d1s2, packFields_and]
theorem fromint (rd rs1 : RegIdx) : Statement (.fromint rd rs1) := by
  rw [Statement, ← packFields_opcode]
  simp [encode, Instr.format, Instr.opcode, mask_d1s1, packFields_and]
theorem toint (rd rs1 : RegIdx) : Statement (.toint rd rs1) := by
  rw [Statement, ← packFields_opcode]
  simp [encode, Instr.format, Instr.opcode, mask_d1s1, packFields_and]
theorem fromfrac (rd rs1 rs2 : RegIdx) : Statement (.fromfrac rd rs1 rs2) := by
  rw [Statement, ← packFields_opcode]
  simp [encode, Instr.format, Instr.opcode, mask_d1s2, packFields_and]
theorem wrap (rd rs1 : RegIdx) : Statement (.wrap rd rs1) := by
  rw [Statement, ← packFields_opcode]
  simp [encode, Instr.format, Instr.opcode, mask_d1s1, packFields_and]
theorem sincos (rd rd2 rs1 : RegIdx) : Statement (.sincos rd rd2 rs1) := by
  rw [Statement, ← packFields_opcode]
  simp [encode, Instr.format, Instr.opcode, mask_d2s1, packFields_and]
theorem asr (rd rs1 rs2 : RegIdx) : Statement (.asr rd rs1 rs2) := by
  rw [Statement, ← packFields_opcode]
  simp [encode, Instr.format, Instr.opcode, mask_d1s2, packFields_and]
theorem clarke (rd rd2 rs1 rs2 : RegIdx) : Statement (.clarke rd rd2 rs1 rs2) := by
  rw [Statement, ← packFields_opcode]
  simp [encode, Instr.format, Instr.opcode, mask_d2s2, packFields_and]
theorem iclarke (rd rd2 rd3 rs1 rs2 : RegIdx) : Statement (.iclarke rd rd2 rd3 rs1 rs2) := by
  rw [Statement, ← packFields_opcode]
  simp [encode, Instr.format, Instr.opcode, mask_d3s2, packFields_and]
theorem park (rd rd2 rs1 rs2 rs3 : RegIdx) : Statement (.park rd rd2 rs1 rs2 rs3) := by
  rw [Statement, ← packFields_opcode]
  simp [encode, Instr.format, Instr.opcode, mask_d2s3, packFields_and]
theorem ipark (rd rd2 rs1 rs2 rs3 : RegIdx) : Statement (.ipark rd rd2 rs1 rs2 rs3) := by
  rw [Statement, ← packFields_opcode]
  simp [encode, Instr.format, Instr.opcode, mask_d2s3, packFields_and]
theorem pid0 (rd rs1 rs2 rs3 : RegIdx) : Statement (.pid0 rd rs1 rs2 rs3) := by
  rw [Statement, ← packFields_opcode]
  simp [encode, Instr.format, Instr.opcode, mask_d1s3, packFields_and]
theorem pid1 (rd rs1 rs2 rs3 : RegIdx) : Statement (.pid1 rd rs1 rs2 rs3) := by
  rw [Statement, ← packFields_opcode]
  simp [encode, Instr.format, Instr.opcode, mask_d1s3, packFields_and]
theorem pid2 (rd rs1 rs2 rs3 : RegIdx) : Statement (.pid2 rd rs1 rs2 rs3) := by
  rw [Statement, ← packFields_opcode]
  simp [encode, Instr.format, Instr.opcode, mask_d1s3, packFields_and]
theorem slewd (rd rs1 rs2 rs3 : RegIdx) : Statement (.slewd rd rs1 rs2 rs3) := by
  rw [Statement, ← packFields_opcode]
  simp [encode, Instr.format, Instr.opcode, mask_d1s3, packFields_and]
theorem slewq (rd rs1 rs2 rs3 : RegIdx) : Statement (.slewq rd rs1 rs2 rs3) := by
  rw [Statement, ← packFields_opcode]
  simp [encode, Instr.format, Instr.opcode, mask_d1s3, packFields_and]
theorem sstep (rd rs1 rs2 : RegIdx) : Statement (.sstep rd rs1 rs2) := by
  rw [Statement, ← packFields_opcode]
  simp [encode, Instr.format, Instr.opcode, mask_d1s2, packFields_and]
theorem pllstep (rd rd2 rs1 rs2 rs3 rs4 : RegIdx) : Statement (.pllstep rd rd2 rs1 rs2 rs3 rs4) := by
  rw [Statement, ← packFields_opcode]
  simp [encode, Instr.format, Instr.opcode, mask_d2s4, packFields_and]
theorem focstep (rd rd2 rs1 rs2 rs3 : RegIdx) : Statement (.focstep rd rd2 rs1 rs2 rs3) := by
  rw [Statement, ← packFields_opcode]
  simp [encode, Instr.format, Instr.opcode, mask_d2s3, packFields_and]
theorem svpwm (rs1 rs2 : RegIdx) : Statement (.svpwm rs1 rs2) := by
  rw [Statement, ← packFields_opcode]
  simp [encode, Instr.format, Instr.opcode, mask_s2, packFields_and]
theorem stinit : Statement .stinit := by
  rw [Statement, ← packFields_opcode]
  simp [encode, Instr.format, Instr.opcode, mask_z, packFields_and]
theorem sttick (rd rs1 rs2 rs3 : RegIdx) : Statement (.sttick rd rs1 rs2 rs3) := by
  rw [Statement, ← packFields_opcode]
  simp [encode, Instr.format, Instr.opcode, mask_d1s3, packFields_and]
theorem tick : Statement .tick := by
  rw [Statement, ← packFields_opcode]
  simp [encode, Instr.format, Instr.opcode, mask_z, packFields_and]
theorem reinit : Statement .reinit := by
  rw [Statement, ← packFields_opcode]
  simp [encode, Instr.format, Instr.opcode, mask_z, packFields_and]
theorem clrstat : Statement .clrstat := by
  rw [Statement, ← packFields_opcode]
  simp [encode, Instr.format, Instr.opcode, mask_z, packFields_and]
theorem calinit (rs1 rs2 : RegIdx) : Statement (.calinit rs1 rs2) := by
  rw [Statement, ← packFields_opcode]
  simp [encode, Instr.format, Instr.opcode, mask_s2, packFields_and]
theorem calupd (rs1 : RegIdx) : Statement (.calupd rs1) := by
  rw [Statement, ← packFields_opcode]
  simp [encode, Instr.format, Instr.opcode, mask_s1, packFields_and]

end FormatMask
end Sys2Proof.Laws
end

