-- ==== Sys2Proof/Laws/State.lean ====
section
/-! SUPPORT. One lemma for each field of State under each named update of it, true by rfl. -/

namespace Sys2Proof.Machine

set_option Elab.async false

@[simp] theorem State.cmd_setX (s : State) (n : RegIdx) (v : Word) : (s.setX n v).cmd = s.cmd := rfl
@[simp] theorem State.status_setX (s : State) (n : RegIdx) (v : Word) : (s.setX n v).status = s.status := rfl
@[simp] theorem State.inp_setX (s : State) (n : RegIdx) (v : Word) : (s.setX n v).inp = s.inp := rfl
@[simp] theorem State.idRef_setX (s : State) (n : RegIdx) (v : Word) : (s.setX n v).idRef = s.idRef := rfl
@[simp] theorem State.iqRef_setX (s : State) (n : RegIdx) (v : Word) : (s.setX n v).iqRef = s.iqRef := rfl
@[simp] theorem State.out_setX (s : State) (n : RegIdx) (v : Word) : (s.setX n v).out = s.out := rfl
@[simp] theorem State.foc_setX (s : State) (n : RegIdx) (v : Word) : (s.setX n v).foc = s.foc := rfl
@[simp] theorem State.slewVd_setX (s : State) (n : RegIdx) (v : Word) : (s.setX n v).slewVd = s.slewVd := rfl
@[simp] theorem State.slewVq_setX (s : State) (n : RegIdx) (v : Word) : (s.setX n v).slewVq = s.slewVq := rfl
@[simp] theorem State.ssGain_setX (s : State) (n : RegIdx) (v : Word) : (s.setX n v).ssGain = s.ssGain := rfl
@[simp] theorem State.pid0_setX (s : State) (n : RegIdx) (v : Word) : (s.setX n v).pid0 = s.pid0 := rfl
@[simp] theorem State.pid1_setX (s : State) (n : RegIdx) (v : Word) : (s.setX n v).pid1 = s.pid1 := rfl
@[simp] theorem State.pid2_setX (s : State) (n : RegIdx) (v : Word) : (s.setX n v).pid2 = s.pid2 := rfl
@[simp] theorem State.pll_setX (s : State) (n : RegIdx) (v : Word) : (s.setX n v).pll = s.pll := rfl
@[simp] theorem State.st_setX (s : State) (n : RegIdx) (v : Word) : (s.setX n v).st = s.st := rfl
@[simp] theorem State.cal_setX (s : State) (n : RegIdx) (v : Word) : (s.setX n v).cal = s.cal := rfl
@[simp] theorem State.cfg_setX (s : State) (n : RegIdx) (v : Word) : (s.setX n v).cfg = s.cfg := rfl
@[simp] theorem State.port_setX (s : State) (n : RegIdx) (v : Word) : (s.setX n v).port = s.port := rfl
@[simp] theorem State.rdData_setX (s : State) (n : RegIdx) (v : Word) : (s.setX n v).rdData = s.rdData := rfl

@[simp] theorem State.cmd_setX2 (s : State) (n n2 : RegIdx) (v v2 : Word) : (s.setX2 n n2 v v2).cmd = s.cmd := rfl
@[simp] theorem State.status_setX2 (s : State) (n n2 : RegIdx) (v v2 : Word) : (s.setX2 n n2 v v2).status = s.status := rfl
@[simp] theorem State.inp_setX2 (s : State) (n n2 : RegIdx) (v v2 : Word) : (s.setX2 n n2 v v2).inp = s.inp := rfl
@[simp] theorem State.idRef_setX2 (s : State) (n n2 : RegIdx) (v v2 : Word) : (s.setX2 n n2 v v2).idRef = s.idRef := rfl
@[simp] theorem State.iqRef_setX2 (s : State) (n n2 : RegIdx) (v v2 : Word) : (s.setX2 n n2 v v2).iqRef = s.iqRef := rfl
@[simp] theorem State.out_setX2 (s : State) (n n2 : RegIdx) (v v2 : Word) : (s.setX2 n n2 v v2).out = s.out := rfl
@[simp] theorem State.foc_setX2 (s : State) (n n2 : RegIdx) (v v2 : Word) : (s.setX2 n n2 v v2).foc = s.foc := rfl
@[simp] theorem State.slewVd_setX2 (s : State) (n n2 : RegIdx) (v v2 : Word) : (s.setX2 n n2 v v2).slewVd = s.slewVd := rfl
@[simp] theorem State.slewVq_setX2 (s : State) (n n2 : RegIdx) (v v2 : Word) : (s.setX2 n n2 v v2).slewVq = s.slewVq := rfl
@[simp] theorem State.ssGain_setX2 (s : State) (n n2 : RegIdx) (v v2 : Word) : (s.setX2 n n2 v v2).ssGain = s.ssGain := rfl
@[simp] theorem State.pid0_setX2 (s : State) (n n2 : RegIdx) (v v2 : Word) : (s.setX2 n n2 v v2).pid0 = s.pid0 := rfl
@[simp] theorem State.pid1_setX2 (s : State) (n n2 : RegIdx) (v v2 : Word) : (s.setX2 n n2 v v2).pid1 = s.pid1 := rfl
@[simp] theorem State.pid2_setX2 (s : State) (n n2 : RegIdx) (v v2 : Word) : (s.setX2 n n2 v v2).pid2 = s.pid2 := rfl
@[simp] theorem State.pll_setX2 (s : State) (n n2 : RegIdx) (v v2 : Word) : (s.setX2 n n2 v v2).pll = s.pll := rfl
@[simp] theorem State.st_setX2 (s : State) (n n2 : RegIdx) (v v2 : Word) : (s.setX2 n n2 v v2).st = s.st := rfl
@[simp] theorem State.cal_setX2 (s : State) (n n2 : RegIdx) (v v2 : Word) : (s.setX2 n n2 v v2).cal = s.cal := rfl
@[simp] theorem State.cfg_setX2 (s : State) (n n2 : RegIdx) (v v2 : Word) : (s.setX2 n n2 v v2).cfg = s.cfg := rfl
@[simp] theorem State.port_setX2 (s : State) (n n2 : RegIdx) (v v2 : Word) : (s.setX2 n n2 v v2).port = s.port := rfl
@[simp] theorem State.rdData_setX2 (s : State) (n n2 : RegIdx) (v v2 : Word) : (s.setX2 n n2 v v2).rdData = s.rdData := rfl

@[simp] theorem State.cmd_setX3 (s : State) (n n2 n3 : RegIdx) (v v2 v3 : Word) : (s.setX3 n n2 n3 v v2 v3).cmd = s.cmd := rfl
@[simp] theorem State.status_setX3 (s : State) (n n2 n3 : RegIdx) (v v2 v3 : Word) : (s.setX3 n n2 n3 v v2 v3).status = s.status := rfl
@[simp] theorem State.inp_setX3 (s : State) (n n2 n3 : RegIdx) (v v2 v3 : Word) : (s.setX3 n n2 n3 v v2 v3).inp = s.inp := rfl
@[simp] theorem State.idRef_setX3 (s : State) (n n2 n3 : RegIdx) (v v2 v3 : Word) : (s.setX3 n n2 n3 v v2 v3).idRef = s.idRef := rfl
@[simp] theorem State.iqRef_setX3 (s : State) (n n2 n3 : RegIdx) (v v2 v3 : Word) : (s.setX3 n n2 n3 v v2 v3).iqRef = s.iqRef := rfl
@[simp] theorem State.out_setX3 (s : State) (n n2 n3 : RegIdx) (v v2 v3 : Word) : (s.setX3 n n2 n3 v v2 v3).out = s.out := rfl
@[simp] theorem State.foc_setX3 (s : State) (n n2 n3 : RegIdx) (v v2 v3 : Word) : (s.setX3 n n2 n3 v v2 v3).foc = s.foc := rfl
@[simp] theorem State.slewVd_setX3 (s : State) (n n2 n3 : RegIdx) (v v2 v3 : Word) : (s.setX3 n n2 n3 v v2 v3).slewVd = s.slewVd := rfl
@[simp] theorem State.slewVq_setX3 (s : State) (n n2 n3 : RegIdx) (v v2 v3 : Word) : (s.setX3 n n2 n3 v v2 v3).slewVq = s.slewVq := rfl
@[simp] theorem State.ssGain_setX3 (s : State) (n n2 n3 : RegIdx) (v v2 v3 : Word) : (s.setX3 n n2 n3 v v2 v3).ssGain = s.ssGain := rfl
@[simp] theorem State.pid0_setX3 (s : State) (n n2 n3 : RegIdx) (v v2 v3 : Word) : (s.setX3 n n2 n3 v v2 v3).pid0 = s.pid0 := rfl
@[simp] theorem State.pid1_setX3 (s : State) (n n2 n3 : RegIdx) (v v2 v3 : Word) : (s.setX3 n n2 n3 v v2 v3).pid1 = s.pid1 := rfl
@[simp] theorem State.pid2_setX3 (s : State) (n n2 n3 : RegIdx) (v v2 v3 : Word) : (s.setX3 n n2 n3 v v2 v3).pid2 = s.pid2 := rfl
@[simp] theorem State.pll_setX3 (s : State) (n n2 n3 : RegIdx) (v v2 v3 : Word) : (s.setX3 n n2 n3 v v2 v3).pll = s.pll := rfl
@[simp] theorem State.st_setX3 (s : State) (n n2 n3 : RegIdx) (v v2 v3 : Word) : (s.setX3 n n2 n3 v v2 v3).st = s.st := rfl
@[simp] theorem State.cal_setX3 (s : State) (n n2 n3 : RegIdx) (v v2 v3 : Word) : (s.setX3 n n2 n3 v v2 v3).cal = s.cal := rfl
@[simp] theorem State.cfg_setX3 (s : State) (n n2 n3 : RegIdx) (v v2 v3 : Word) : (s.setX3 n n2 n3 v v2 v3).cfg = s.cfg := rfl
@[simp] theorem State.port_setX3 (s : State) (n n2 n3 : RegIdx) (v v2 v3 : Word) : (s.setX3 n n2 n3 v v2 v3).port = s.port := rfl
@[simp] theorem State.rdData_setX3 (s : State) (n n2 n3 : RegIdx) (v v2 v3 : Word) : (s.setX3 n n2 n3 v v2 v3).rdData = s.rdData := rfl

@[simp] theorem State.x_raise (s : State) (c : Cond) : (s.raise c).x = s.x := rfl
@[simp] theorem State.cmd_raise (s : State) (c : Cond) : (s.raise c).cmd = s.cmd := rfl
@[simp] theorem State.status_raise (s : State) (c : Cond) : (s.raise c).status = setBit s.status c := rfl
@[simp] theorem State.inp_raise (s : State) (c : Cond) : (s.raise c).inp = s.inp := rfl
@[simp] theorem State.idRef_raise (s : State) (c : Cond) : (s.raise c).idRef = s.idRef := rfl
@[simp] theorem State.iqRef_raise (s : State) (c : Cond) : (s.raise c).iqRef = s.iqRef := rfl
@[simp] theorem State.out_raise (s : State) (c : Cond) : (s.raise c).out = s.out := rfl
@[simp] theorem State.foc_raise (s : State) (c : Cond) : (s.raise c).foc = s.foc := rfl
@[simp] theorem State.slewVd_raise (s : State) (c : Cond) : (s.raise c).slewVd = s.slewVd := rfl
@[simp] theorem State.slewVq_raise (s : State) (c : Cond) : (s.raise c).slewVq = s.slewVq := rfl
@[simp] theorem State.ssGain_raise (s : State) (c : Cond) : (s.raise c).ssGain = s.ssGain := rfl
@[simp] theorem State.pid0_raise (s : State) (c : Cond) : (s.raise c).pid0 = s.pid0 := rfl
@[simp] theorem State.pid1_raise (s : State) (c : Cond) : (s.raise c).pid1 = s.pid1 := rfl
@[simp] theorem State.pid2_raise (s : State) (c : Cond) : (s.raise c).pid2 = s.pid2 := rfl
@[simp] theorem State.pll_raise (s : State) (c : Cond) : (s.raise c).pll = s.pll := rfl
@[simp] theorem State.st_raise (s : State) (c : Cond) : (s.raise c).st = s.st := rfl
@[simp] theorem State.cal_raise (s : State) (c : Cond) : (s.raise c).cal = s.cal := rfl
@[simp] theorem State.cfg_raise (s : State) (c : Cond) : (s.raise c).cfg = s.cfg := rfl
@[simp] theorem State.port_raise (s : State) (c : Cond) : (s.raise c).port = s.port := rfl
@[simp] theorem State.rdData_raise (s : State) (c : Cond) : (s.raise c).rdData = s.rdData := rfl

@[simp] theorem State.x_clear (s : State) (c : Cond) : (s.clear c).x = s.x := rfl
@[simp] theorem State.cmd_clear (s : State) (c : Cond) : (s.clear c).cmd = s.cmd := rfl
@[simp] theorem State.status_clear (s : State) (c : Cond) : (s.clear c).status = clearBit s.status c := rfl
@[simp] theorem State.inp_clear (s : State) (c : Cond) : (s.clear c).inp = s.inp := rfl
@[simp] theorem State.idRef_clear (s : State) (c : Cond) : (s.clear c).idRef = s.idRef := rfl
@[simp] theorem State.iqRef_clear (s : State) (c : Cond) : (s.clear c).iqRef = s.iqRef := rfl
@[simp] theorem State.out_clear (s : State) (c : Cond) : (s.clear c).out = s.out := rfl
@[simp] theorem State.foc_clear (s : State) (c : Cond) : (s.clear c).foc = s.foc := rfl
@[simp] theorem State.slewVd_clear (s : State) (c : Cond) : (s.clear c).slewVd = s.slewVd := rfl
@[simp] theorem State.slewVq_clear (s : State) (c : Cond) : (s.clear c).slewVq = s.slewVq := rfl
@[simp] theorem State.ssGain_clear (s : State) (c : Cond) : (s.clear c).ssGain = s.ssGain := rfl
@[simp] theorem State.pid0_clear (s : State) (c : Cond) : (s.clear c).pid0 = s.pid0 := rfl
@[simp] theorem State.pid1_clear (s : State) (c : Cond) : (s.clear c).pid1 = s.pid1 := rfl
@[simp] theorem State.pid2_clear (s : State) (c : Cond) : (s.clear c).pid2 = s.pid2 := rfl
@[simp] theorem State.pll_clear (s : State) (c : Cond) : (s.clear c).pll = s.pll := rfl
@[simp] theorem State.st_clear (s : State) (c : Cond) : (s.clear c).st = s.st := rfl
@[simp] theorem State.cal_clear (s : State) (c : Cond) : (s.clear c).cal = s.cal := rfl
@[simp] theorem State.cfg_clear (s : State) (c : Cond) : (s.clear c).cfg = s.cfg := rfl
@[simp] theorem State.port_clear (s : State) (c : Cond) : (s.clear c).port = s.port := rfl
@[simp] theorem State.rdData_clear (s : State) (c : Cond) : (s.clear c).rdData = s.rdData := rfl

@[simp] theorem State.x_zeroOutputs (s : State) : (s.zeroOutputs).x = s.x := rfl
@[simp] theorem State.cmd_zeroOutputs (s : State) : (s.zeroOutputs).cmd = s.cmd := rfl
@[simp] theorem State.status_zeroOutputs (s : State) : (s.zeroOutputs).status = s.status := rfl
@[simp] theorem State.inp_zeroOutputs (s : State) : (s.zeroOutputs).inp = s.inp := rfl
@[simp] theorem State.idRef_zeroOutputs (s : State) : (s.zeroOutputs).idRef = s.idRef := rfl
@[simp] theorem State.iqRef_zeroOutputs (s : State) : (s.zeroOutputs).iqRef = s.iqRef := rfl
@[simp] theorem State.out_zeroOutputs (s : State) : (s.zeroOutputs).out = .zero := rfl
@[simp] theorem State.foc_zeroOutputs (s : State) : (s.zeroOutputs).foc = s.foc := rfl
@[simp] theorem State.slewVd_zeroOutputs (s : State) : (s.zeroOutputs).slewVd = s.slewVd := rfl
@[simp] theorem State.slewVq_zeroOutputs (s : State) : (s.zeroOutputs).slewVq = s.slewVq := rfl
@[simp] theorem State.ssGain_zeroOutputs (s : State) : (s.zeroOutputs).ssGain = s.ssGain := rfl
@[simp] theorem State.pid0_zeroOutputs (s : State) : (s.zeroOutputs).pid0 = s.pid0 := rfl
@[simp] theorem State.pid1_zeroOutputs (s : State) : (s.zeroOutputs).pid1 = s.pid1 := rfl
@[simp] theorem State.pid2_zeroOutputs (s : State) : (s.zeroOutputs).pid2 = s.pid2 := rfl
@[simp] theorem State.pll_zeroOutputs (s : State) : (s.zeroOutputs).pll = s.pll := rfl
@[simp] theorem State.st_zeroOutputs (s : State) : (s.zeroOutputs).st = s.st := rfl
@[simp] theorem State.cal_zeroOutputs (s : State) : (s.zeroOutputs).cal = s.cal := rfl
@[simp] theorem State.cfg_zeroOutputs (s : State) : (s.zeroOutputs).cfg = s.cfg := rfl
@[simp] theorem State.port_zeroOutputs (s : State) : (s.zeroOutputs).port = s.port := rfl
@[simp] theorem State.rdData_zeroOutputs (s : State) : (s.zeroOutputs).rdData = s.rdData := rfl

@[simp] theorem State.x_reinit (s : State) : (s.reinit).x = s.x := rfl
@[simp] theorem State.cmd_reinit (s : State) : (s.reinit).cmd = s.cmd := rfl
@[simp] theorem State.status_reinit (s : State) : (s.reinit).status = s.status := rfl
@[simp] theorem State.inp_reinit (s : State) : (s.reinit).inp = s.inp := rfl
@[simp] theorem State.idRef_reinit (s : State) : (s.reinit).idRef = 0 := rfl
@[simp] theorem State.iqRef_reinit (s : State) : (s.reinit).iqRef = 0 := rfl
@[simp] theorem State.out_reinit (s : State) : (s.reinit).out = .zero := rfl
@[simp] theorem State.foc_reinit (s : State) : (s.reinit).foc = .zero := rfl
@[simp] theorem State.slewVd_reinit (s : State) : (s.reinit).slewVd = 0 := rfl
@[simp] theorem State.slewVq_reinit (s : State) : (s.reinit).slewVq = 0 := rfl
@[simp] theorem State.ssGain_reinit (s : State) : (s.reinit).ssGain = 0 := rfl
@[simp] theorem State.pid0_reinit (s : State) : (s.reinit).pid0 = .zero := rfl
@[simp] theorem State.pid1_reinit (s : State) : (s.reinit).pid1 = .zero := rfl
@[simp] theorem State.pid2_reinit (s : State) : (s.reinit).pid2 = .zero := rfl
@[simp] theorem State.pll_reinit (s : State) : (s.reinit).pll = .zero := rfl
@[simp] theorem State.st_reinit (s : State) : (s.reinit).st = .zero := rfl
@[simp] theorem State.cal_reinit (s : State) : (s.reinit).cal = s.cal := rfl
@[simp] theorem State.cfg_reinit (s : State) : (s.reinit).cfg = s.cfg := rfl
@[simp] theorem State.port_reinit (s : State) : (s.reinit).port = s.port := rfl
@[simp] theorem State.rdData_reinit (s : State) : (s.reinit).rdData = s.rdData := rfl

@[simp] theorem State.cfg_resetEvent (s : State) : (s.resetEvent).cfg = s.cfg := rfl
@[simp] theorem State.port_resetEvent (s : State) : (s.resetEvent).port = s.port := rfl
@[simp] theorem State.rdData_resetEvent (s : State) : (s.resetEvent).rdData = s.rdData := rfl

end Sys2Proof.Machine
end

