-- ==== Sys2Proof/Laws/Regs.lean ====
section
/-! SUPPORT. Reading a register after a shared operation: what `getX`, `setX`, `get`, `raise` and the host's accesses
can do, said once. -/

namespace Sys2Proof.Machine

set_option Elab.async false

@[simp] theorem State.getX_setX_self (s : State) (n : RegIdx) (v : Word) : (s.setX n v).getX n = v := by
  simp [State.getX, State.setX]

theorem State.getX_setX_ne (s : State) (n m : RegIdx) (v : Word) (h : m ≠ n) :
    (s.setX n v).getX m = s.getX m := by
  have : n.toNat ≠ m.toNat := fun e => h (BitVec.eq_of_toNat_eq e.symm)
  simp [State.getX, State.setX, this]

/-- Writing a general register changes that register of the map and no other. -/
theorem State.get_setX (s : State) (n : RegIdx) (v : Word) (r : Reg) :
    (s.setX n v).get r = if r = .x n then v else s.get r := by
  cases r
  case x m =>
    by_cases h : m = n
    · subst h
      simp [State.get]
    · simp [State.get, State.getX_setX_ne s n m v h, h]
  all_goals simp [State.get]

/-- Raising a condition changes STATUS and no other register of the map. -/
theorem State.get_raise (s : State) (c : Cond) (r : Reg) :
    (s.raise c).get r = if r = .status then setBit s.status c else s.get r := by
  cases r <;> simp [State.get, State.getX]

/-- Clearing a condition changes STATUS and no other register of the map. -/
theorem State.get_clear (s : State) (c : Cond) (r : Reg) :
    (s.clear c).get r = if r = .status then clearBit s.status c else s.get r := by
  cases r <;> simp [State.get, State.getX]

/-- Re-initialisation zeroes the registers of index 0x1E .. 0x65 and leaves every other. -/
theorem State.get_reinit (s : State) (r : Reg) : s.reinit.get r = if r ∈ reinitRegs then 0 else s.get r := by
  cases r <;> simp [State.get, State.getX, reinitRegs, startupRegs, outRegs, focStepRegs, focRegs, pllStepRegs,
    OutRegs.zero, FocRegs.zero, PidRegs.zero, PllRegs.zero, StRegs.zero, StState.code]

/-- Zeroing the outputs zeroes the eleven output registers and leaves every other. -/
theorem State.get_zeroOutputs (s : State) (r : Reg) :
    s.zeroOutputs.get r = if r ∈ outRegs then 0 else s.get r := by
  cases r <;> simp [State.get, State.getX, outRegs, OutRegs.zero]

/-- A step carries out the first pending event on the state without it, or waits. -/
theorem step_cases (s t : State) (h : step s = .next t) :
    (s.port = [] ∧ t = s) ∨
      ∃ e rest, s.port = e :: rest ∧ ({ s with port := rest } : State).portEvent e = .next t := by
  unfold step State.nextEvent at h
  split at h
  · rename_i hp
    cases h
    exact .inl ⟨hp, rfl⟩
  · rename_i e rest hp
    exact .inr ⟨e, rest, hp, h⟩

/-- A port event is a reset, a read, a refused write, a plain store, an illegal command or a command. -/
theorem State.portEvent_cases (s t : State) (e : PortEvent) (h : s.portEvent e = .next t) :
    (e = .reset ∧ t = s.resetEvent) ∨
    (∃ idx, e = .rd idx ∧ t = s.hostRd idx) ∨
    (∃ idx v, e = .wr idx v ∧ t = s.raise .acc) ∨
    (∃ idx v r, e = .wr idx v ∧ Reg.ofIndex idx = some r ∧ r.access = .rw ∧ r ≠ .cmd ∧ t = s.hostStore r v) ∨
    (∃ idx v d, e = .wr idx v ∧ Reg.ofIndex idx = some .cmd ∧ decode v = .error d ∧
      t = ({ s with cmd := v } : State).raise .ill) ∨
    (∃ idx v i, e = .wr idx v ∧ Reg.ofIndex idx = some .cmd ∧ decode v = .ok i ∧
      exec i { s with cmd := v } = .next t) := by
  cases e with
  | reset =>
    cases h
    exact .inl ⟨rfl, rfl⟩
  | rd idx =>
    cases h
    exact .inr (.inl ⟨idx, rfl, rfl⟩)
  | wr idx v =>
    simp only [State.portEvent, State.hostWr] at h
    split at h
    · cases h
      exact .inr (.inr (.inl ⟨idx, v, rfl, rfl⟩))
    · rename_i r hr
      split at h
      · cases h
        exact .inr (.inr (.inl ⟨idx, v, rfl, rfl⟩))
      · rename_i ha
        split at h
        · rename_i hc
          subst hc
          simp only [State.execute] at h
          split at h
          · rename_i i hi
            exact .inr (.inr (.inr (.inr (.inr ⟨idx, v, i, rfl, hr, hi, h⟩))))
          · rename_i d hd
            cases h
            exact .inr (.inr (.inr (.inr (.inl ⟨idx, v, d, rfl, hr, hd, rfl⟩))))
        · rename_i hc
          cases h
          exact .inr (.inr (.inr (.inl ⟨idx, v, r, rfl, hr, ha, hc, rfl⟩)))

@[simp] theorem stBlend_iqRef (s : State) (thObs : Word) : (stBlend s thObs).iqRef = s.st.iqOl := rfl

/-- What stood in `IQ_REF` before an update in ALIGN, RAMP, BLEND or FAIL has no effect on it or on anything else: a
host write to it lasts only in STOP and RUN (R29). -/
theorem stUpdate_forgets_iqRef (s : State) (v w emag2 thObs : Word) (hStop : s.st.state ≠ .stop)
    (hRun : s.st.state ≠ .run) : stUpdate { s with iqRef := v } w emag2 thObs = stUpdate s w emag2 thObs := by
  cases hs : s.st.state with
  | stop => exact absurd hs hStop
  | run => exact absurd hs hRun
  | fail => simp only [stUpdate, hs]
  | align | ramp | blend => simp only [stUpdate, hs]; rfl

end Sys2Proof.Machine
end

