-- ==== Sys2Proof/Tests/Slice0.lean ====
section
/-! SUPPORT. Tests and witnesses. Words are written out from R81 to R83 by hand; expected values are those of
95_test_vectors.md (the section is named at each test) or of the examples of the rules, under REFCFG. One step each. -/

namespace Sys2Proof.Tests

set_option Elab.async false

open Machine Rule

/-- The block of 95_test_vectors.md after reset: configuration REFCFG, every register 0. -/
def ref : State := State.resetWith Config.refcfg

/-- `ref` with general registers preset. -/
def withX (l : List (RegIdx × Word)) : State := l.foldl (fun s p => s.setX p.1 p.2) ref

/-- `ref` with one port event pending. -/
def pending (e : PortEvent) : State := { ref with port := [e] }

/-- The state a result goes on to. -/
def got (o : Result) : State :=
  match o with
  | .next t => t
  | _ => ref

/-- Registers of the state a result goes on to. -/
def reads (o : Result) (l : List Reg) : Option (List Word) :=
  match o with
  | .next t => some (l.map t.get)
  | _ => none

/-! ### Decoding: one word for each command, its fields written out bit by bit (R81, R83) -/

theorem test_decode_nop : decode 0b00000000_0000_0000_0000_0000_0000_0000#32 = .ok .nop := by decide
theorem test_decode_add : decode 0b00000001_0011_0000_0001_0010_0000_0000#32 = .ok (.add 3 1 2) := by decide
theorem test_decode_sub : decode 0b00000010_1010_0000_1001_0010_0000_0000#32 = .ok (.sub 10 9 2) := by decide
theorem test_decode_mul : decode 0b00000011_0101_0000_0001_0010_0000_0000#32 = .ok (.mul 5 1 2) := by decide
theorem test_decode_div : decode 0b00000100_1001_0000_0001_0000_0000_0000#32 = .ok (.div 9 1 0) := by decide
theorem test_decode_fromint : decode 0b00000101_0111_0000_1000_0000_0000_0000#32 = .ok (.fromint 7 8) := by decide
theorem test_decode_toint : decode 0b00000110_1011_0000_0101_0000_0000_0000#32 = .ok (.toint 11 5) := by decide
theorem test_decode_fromfrac : decode 0b00000111_0110_0000_0011_0100_0000_0000#32 = .ok (.fromfrac 6 3 4) := by decide
theorem test_decode_wrap : decode 0b00001000_1000_0000_0111_0000_0000_0000#32 = .ok (.wrap 8 7) := by decide
theorem test_decode_sincos : decode 0b00001001_0110_0111_0011_0000_0000_0000#32 = .ok (.sincos 6 7 3) := by decide
theorem test_decode_asr : decode 0b00001010_1111_0000_0001_0010_0000_0000#32 = .ok (.asr 15 1 2) := by decide
theorem test_decode_clarke : decode 0b00010000_0100_0101_0001_0010_0000_0000#32 = .ok (.clarke 4 5 1 2) := by decide
theorem test_decode_iclarke :
    decode 0b00010001_1100_1101_1010_1011_1110_0000#32 = .ok (.iclarke 12 13 14 10 11) := by decide
theorem test_decode_park : decode 0b00010010_1000_1001_0100_0101_0011_0000#32 = .ok (.park 8 9 4 5 3) := by decide
theorem test_decode_ipark : decode 0b00010011_1010_1011_1000_1001_0011_0000#32 = .ok (.ipark 10 11 8 9 3) := by decide
theorem test_decode_pid0 : decode 0b00100000_0100_0000_0001_0010_0011_0000#32 = .ok (.pid0 4 1 2 3) := by decide
theorem test_decode_pid1 : decode 0b00100001_0100_0000_0001_0010_0011_0000#32 = .ok (.pid1 4 1 2 3) := by decide
theorem test_decode_pid2 : decode 0b00100010_0100_0000_0001_0010_0011_0000#32 = .ok (.pid2 4 1 2 3) := by decide
theorem test_decode_slewd : decode 0b00100100_0110_0000_0010_0100_0011_0000#32 = .ok (.slewd 6 2 4 3) := by decide
theorem test_decode_slewq : decode 0b00100101_0110_0000_0010_0100_0011_0000#32 = .ok (.slewq 6 2 4 3) := by decide
theorem test_decode_sstep : decode 0b00100110_1000_0000_0111_0011_0000_0000#32 = .ok (.sstep 8 7 3) := by decide
theorem test_decode_pllstep :
    decode 0b00110000_1000_1001_0001_0010_0011_0100#32 = .ok (.pllstep 8 9 1 2 3 4) := by decide
theorem test_decode_focstep :
    decode 0b00110001_0110_0111_0011_0100_0101_0000#32 = .ok (.focstep 6 7 3 4 5) := by decide
theorem test_decode_svpwm : decode 0b00110010_0000_0000_0001_0010_0000_0000#32 = .ok (.svpwm 1 2) := by decide
theorem test_decode_stinit : decode 0b00110011_0000_0000_0000_0000_0000_0000#32 = .ok .stinit := by decide
theorem test_decode_sttick : decode 0b00110100_0100_0000_0001_0010_0011_0000#32 = .ok (.sttick 4 1 2 3) := by decide
theorem test_decode_tick : decode 0b00110101_0000_0000_0000_0000_0000_0000#32 = .ok .tick := by decide
theorem test_decode_reinit : decode 0b00110110_0000_0000_0000_0000_0000_0000#32 = .ok .reinit := by decide
theorem test_decode_clrstat : decode 0b00110111_0000_0000_0000_0000_0000_0000#32 = .ok .clrstat := by decide
theorem test_decode_calinit : decode 0b01000000_0000_0000_0001_0010_0000_0000#32 = .ok (.calinit 1 2) := by decide
theorem test_decode_calupd : decode 0b01000001_0000_0000_0011_0000_0000_0000#32 = .ok (.calupd 3) := by decide

/-- R85: an opcode outside the map. -/
theorem test_decode_reserved : decode 0x23000000#32 = .error (.reservedOpcode 0x23#8) := by decide
/-- R84's example: TICK with a non-zero rs4. -/
theorem test_decode_unused_field : decode 0x35000001#32 = .error (.unusedFieldNotZero .z) := by decide
/-- R84: formats D3S2 and D2S3 do not use rs4. -/
theorem test_decode_rs4_unused : decode 0x11124531#32 = .error (.unusedFieldNotZero .d3s2) := by decide

/-! ### Well-formed configurations (R6): REFCFG is one, and each check refuses an ill-formed one -/

theorem test_refcfg_wellFormed : Config.refcfg.WellFormed = true := by decide
theorem test_instr_wellFormed : (Instr.pllstep 15 15 15 15 15 15).WellFormed = true := by decide
theorem test_refuses_pid_bounds : (PidCfg.mk 0 0 0 0x00010000#32 0xFFFF0000#32).boundsOk = false := by decide
theorem test_refuses_pll_speed : { Config.refcfg with pllWMin := 0x01F40001#32 }.WellFormed = false := by decide
theorem test_refuses_pll_integ : { Config.refcfg with pllIMin := 0x00320001#32 }.WellFormed = false := by decide
theorem test_refuses_oc_limit : { Config.refcfg with iOcLimit := 0xFFFFFFFF#32 }.WellFormed = false := by decide
theorem test_refuses_pwm_max : { Config.refcfg with pwmMax := 32768#32 }.WellFormed = false := by decide
theorem test_refuses_align_ticks : { Config.refcfg with stAlignTimeTicks := 0#32 }.WellFormed = false := by decide
theorem test_refuses_blend_ticks : { Config.refcfg with stBlendTicks := 0x80000000#32 }.WellFormed = false := by decide
theorem test_refuses_steps : { Config.refcfg with stDthetaSlew := 0xFFFFFFFF#32 }.WellFormed = false := by decide
theorem test_refuses_dtheta : { Config.refcfg with stDthetaMax := 0x00020001#32 }.WellFormed = false := by decide
theorem test_refuses_handoff : { Config.refcfg with stHandoffEmf2Min := 0xFFFFFFFF#32 }.WellFormed = false := by decide
theorem test_refuses_full_scale : { Config.refcfg with calFullScale := 0#32 }.WellFormed = false := by decide

/-! ### Fixed-point unit (95 section 2.1) -/

theorem test_add_saturates : reads (exec (.add 3 1 2) (withX [(1, MAX), (2, 1)])) [.x 3, .status] = some [MAX, 0] := by
  decide +kernel
theorem test_sub_min : reads (exec (.sub 3 1 2) (withX [(2, MIN)])) [.x 3] = some [MAX] := by decide +kernel
theorem test_mul_tie_negative :
    reads (exec (.mul 1 1 2) (withX [(1, 0xFFFFFFFD#32), (2, 0x00008000#32)])) [.x 1] = some [0xFFFFFFFE#32] := by
  decide +kernel
theorem test_mul_mixed_signs :
    reads (exec (.mul 5 1 2) (withX [(1, 0x00018000#32), (2, 0xFFFDC000#32)])) [.x 5] = some [0xFFFCA000#32] := by
  decide +kernel
theorem test_div_rounds :
    reads (exec (.div 3 1 2) (withX [(1, 0xFFFF0000#32), (2, 0x00030000#32)])) [.x 3] = some [0xFFFFAAAB#32] := by
  decide +kernel
theorem test_div_by_zero :
    reads (exec (.div 3 1 2) (withX [(1, 0xFFFFFFFF#32)])) [.x 3, .status] = some [MIN, 0] := by decide +kernel
theorem test_fromint_saturates :
    reads (exec (.fromint 3 1) (withX [(1, 0x00008000#32)])) [.x 3] = some [MAX] := by decide +kernel
theorem test_toint_floors :
    reads (exec (.toint 3 1) (withX [(1, 0xFFFE8000#32)])) [.x 3] = some [0xFFFFFFFE#32] := by decide +kernel
theorem test_fromfrac_tie :
    reads (exec (.fromfrac 3 1 2) (withX [(1, 1), (2, 131072#32)])) [.x 3] = some [1] := by decide +kernel
theorem test_wrap_edge :
    reads (exec (.wrap 3 1) (withX [(1, 0xFFFF0000#32)])) [.x 3] = some [0x00010000#32] := by decide +kernel
theorem test_wrap_once :
    reads (exec (.wrap 3 1) (withX [(1, 0x00050000#32)])) [.x 3] = some [0x00030000#32] := by decide +kernel
theorem test_asr_floors :
    reads (exec (.asr 3 1 2) (withX [(1, 0xFFFFFFFD#32), (2, 1)])) [.x 3] = some [0xFFFFFFFE#32] := by decide +kernel
theorem test_asr_large_amount :
    reads (exec (.asr 3 1 2) (withX [(1, 0x00010000#32), (2, 32#32)])) [.x 3] = some [0] := by decide +kernel

/-! ### Sine, cosine, transforms (95 sections 2.2, 2.3) -/

theorem test_sincos : reads (exec (.sincos 1 2 0) (withX [(0, 0x00002000#32)])) [.x 1, .x 2] =
    some [0x0000B50D#32, 0x0000B4FE#32] := by decide +kernel
theorem test_sincos_flip : reads (exec (.sincos 1 2 0) (withX [(0, 0xFFFFA000#32)])) [.x 1, .x 2] =
    some [0xFFFF4AF2#32, 0xFFFF4B01#32] := by decide +kernel
theorem test_clarke : reads (exec (.clarke 4 5 1 2) (withX [(1, 0x00028000#32), (2, 0xFFFF0000#32)])) [.x 4, .x 5] =
    some [0x00028000#32, 0x000049E7#32] := by decide +kernel
theorem test_iclarke_overlap : reads (exec (.iclarke 1 1 1 4 5) (withX [(4, ONE)])) [.x 1] =
    some [0xFFFF8000#32] := by decide +kernel
theorem test_iclarke_sources_first : reads (exec (.iclarke 4 5 6 4 5) (withX [(4, ONE)])) [.x 4, .x 5, .x 6] =
    some [0x00010000#32, 0xFFFF8000#32, 0xFFFF8000#32] := by decide +kernel
theorem test_park : reads (exec (.park 8 9 4 5 3)
    (withX [(4, 0x00028000#32), (5, 0x000049E7#32), (3, 0x00001555#32)])) [.x 8, .x 9] =
    some [0x00024F2D#32, 0xFFFEFFE1#32] := by decide +kernel
theorem test_ipark : reads (exec (.ipark 10 11 8 9 3)
    (withX [(8, 0x00024F2D#32), (9, 0xFFFEFFE1#32), (3, 0x00001555#32)])) [.x 10, .x 11] =
    some [0x0002800A#32, 0x000049E8#32] := by decide +kernel

/-! ### Regulators (95 section 2.4) -/

/-- Call 4 of sequence W: clamped, the candidate still committed. -/
theorem test_pid0_clamps : reads (exec (.pid0 4 1 2 3)
    { withX [(1, 0x00018000#32), (3, 3)] with pid0 := ⟨0x000034BC#32, 0⟩ }) [.x 4, .pid0Integ, .pid0Prev] =
    some [0x00010000#32, 0x00004650#32, 0] := by decide +kernel
/-- Call 8 of sequence W, on instance 1, which has the same parameters. -/
theorem test_pid1_resumes : reads (exec (.pid1 4 1 2 3)
    { withX [(2, 0x00008000#32), (3, 3)] with pid1 := ⟨0x00004650#32, 0⟩ }) [.x 4, .pid1Integ, .pid1Prev] =
    some [0x00000074#32, 0x00004074#32, 0x00008000#32] := by decide +kernel
/-- Call 2 of row D. -/
theorem test_pid2_derivative : reads (exec (.pid2 4 1 2 3)
    { withX [(2, 0x00001000#32), (3, 3)] with
      cfg := { Config.refcfg with pid2 := { Config.refcfg.pid2 with kd := 66#32 } } })
    [.x 4, .pid2Integ, .pid2Prev] = some [0xFFFE8FED#32, 0xFFFFFFED#32, 0x00001000#32] := by decide +kernel
/-- Row Z: a zero time step. -/
theorem test_pid0_zero_dt : reads (exec (.pid0 4 1 2 3) (withX [(1, ONE)])) [.x 4, .pid0Integ] =
    some [0x00008000#32, 0] := by decide +kernel
theorem test_slewd_falls : reads (exec (.slewd 4 1 2 3) (withX [(1, ONE), (3, 3)])) [.x 4, .slewVd] =
    some [0x0000E890#32, 0] := by decide +kernel
theorem test_slewq_far_apart : reads (exec (.slewq 4 1 2 3) (withX [(1, MIN), (2, MAX), (3, 3)])) [.x 4] =
    some [0x80001770#32] := by decide +kernel
theorem test_sstep_clamps : reads (exec (.sstep 8 7 3)
    { withX [(7, 1), (3, 3)] with ssGain := 0x0000FF9C#32 }) [.x 8, .ssGain] = some [ONE, ONE] := by decide +kernel
theorem test_sstep_disabled : reads (exec (.sstep 8 7 3)
    { withX [(3, 3)] with ssGain := 0x000004B0#32 }) [.x 8, .ssGain] = some [0, 0] := by decide +kernel

/-! ### Observer, current loop, PWM (95 sections 2.5, 2.6) -/

theorem test_pllstep : reads (exec (.pllstep 8 9 1 2 3 4) (withX [(1, 0x00020000#32), (3, ONE)]))
    [.x 8, .x 9, .pllDiaF, .pllEa, .pllErr, .pllIaPrev] =
    some [0, 0x00019000#32, 0x15555555#32, 0xFFFEC000#32, 0, ONE] := by decide +kernel
/-- The lower bound of R172, one call: not enforced under REFCFG. -/
theorem test_pllstep_lower : reads (exec (.pllstep 8 9 1 2 3 4) (withX [(2, 0xF4480000#32)])) [.x 8, .pllInteg] =
    some [0xFCE32000#32, 0xFFD12000#32] := by decide +kernel
theorem test_focstep : reads (exec (.focstep 6 7 3 4 5)
    { withX [(3, ONE), (4, 0xFFFF8000#32), (5, 0x00001555#32)] with idRef := 0x00020000#32, iqRef := ONE })
    [.x 6, .x 7, .focId, .focIq, .pid0Integ, .pid1Integ, .focVd, .focVq, .slewVq, .ssGain] =
    some [0x0000143E#32, 0x00000BD0#32, 0x0000DDAF#32, 0xFFFF7FF4#32, 0x00000D4A#32, 0x00001195#32, 0x00001770#32,
      0x0000001B#32, 0x00001770#32, 0x0000012C#32] := by decide +kernel
theorem test_svpwm : reads (exec (.svpwm 1 2) (withX [(1, 0xFFFFB333#32), (2, 0x00003333#32)]))
    (outRegs) = some [754, 3246, 1861, 1446, 3, 0x6075, 0x58AE, 0x46DD, 0x303A, 0xCFC5, 0x7717] := by decide +kernel
theorem test_svpwm_overmodulated : reads (exec (.svpwm 1 2) (withX [(1, ONE)]))
    (outRegs) = some [4000, 0, 0, 2000, 1, 0, 0x10000, 0, 0x10000, 0, 0] := by decide +kernel

/-! ### Startup machine, tick, calibrator, system commands (95 sections 2.7, 2.8, 3) -/

theorem test_reinit : reads (exec .reinit { withX [(4, 0xD194)] with pid0 := ⟨9, 9⟩, ssGain := 9, status := 3 })
    [.x 4, .pid0Integ, .ssGain, .status] = some [0xD194, 0, 0, 3] := by decide +kernel
theorem test_stinit : reads (exec .stinit { ref with status := 15, iqRef := 7 })
    [.stState, .stTicks, .idRef, .iqRef, .status] = some [1, 0, 0x00020000#32, 0, 12] := by decide +kernel
/-- P5 row 6: the first BLEND tick; the IQ_REF before it is a host write, which does not last (R29). -/
theorem test_sttick_blend : reads (exec (.sttick 4 1 2 3)
    { withX [(1, 0xFFFA0000#32), (3, 0x0000199A#32)] with
      idRef := 0x00008000#32, iqRef := 0x7FFF0000#32
      st := ⟨.blend, 0, 0x000003D5#32, 0x0000028E#32, 0x00008000#32, 0x000003D5#32⟩ })
    [.stState, .stTicks, .idRef, .iqRef, .stThetaF, .stThetaBlend, .x 4] =
    some [3, 1, 0x00006000#32, 0x00008000#32, 0x00000663#32, 0x00000B31#32, 0x00000B31#32] := by decide +kernel
/-- P5 row 5: the handoff on a negative speed. -/
theorem test_sttick_handoff : reads (exec (.sttick 4 1 2 3)
    { withX [(1, 0xFFFA0000#32), (3, 0x0000199A#32)] with
      st := ⟨.ramp, 1, 0x00000147#32, 0x00000147#32, 0x00004000#32, 0⟩ })
    [.stState, .stTicks, .idRef, .iqRef, .stThetaF, .stDtheta, .stThetaBlend, .x 4] =
    some [3, 0, 0x00008000#32, 0x00008000#32, 0x000003D5#32, 0x0000028E#32, 0x000003D5#32, 0x000003D5#32] := by
  decide +kernel
/-- P3 row 3: the first ALIGN tick. -/
theorem test_tick_align : reads (exec .tick (got (exec .stinit ref)))
    [.stState, .stTicks, .idRef, .outCmpA, .outCmpB, .outCmpC, .outMarker, .status] =
    some [1, 1, 0x00020000#32, 2275, 1725, 1725, 2000, 0] := by decide +kernel
/-- P3 row 15: one LSB beyond -20.0 trips. -/
theorem test_tick_trips : reads (exec .tick
    { got (exec .stinit ref) with inp := { InRegs.zero with ib := 0xFFEBFFFF#32 } }) [.stState, .idRef, .status] =
    some [0, 0, 3] := by decide +kernel
theorem test_clrstat : reads (exec .clrstat { ref with status := 15 }) [.status] = some [3] := by decide +kernel
theorem test_nop : exec .nop ref = .next ref := rfl
theorem test_calinit : reads (exec (.calinit 1 2) (withX [(1, 0x00013333#32), (2, 0x00004000#32)]))
    [.calVref, .calAlpha, .calVpc, .calValid] = some [0x00013333#32, 0x00004000#32, 0x35, 0] := by decide +kernel
/-- R254 (with D12): a full scale of 0, dividend negative. -/
theorem test_calinit_zero_full_scale : reads (exec (.calinit 1 2)
    { ref with cfg := { Config.refcfg with calFullScale := 0, calDefaultSupply := 0xFFFFFFFF#32 } }) [.calVpc] =
    some [MIN] := by decide +kernel
theorem test_calupd : reads (exec (.calupd 3)
    { withX [(3, 1)] with cal := ⟨0x00013333#32, 0x00004000#32, 0x35, 1⟩ }) [.calVpc, .calValid] =
    some [0x00004CF5#32, 1] := by decide +kernel
/-- R254 (with D12): a full scale of 0 makes the dividend 0, and with alpha = 1.0 the estimate is MAX. -/
theorem test_calupd_zero_full_scale : reads (exec (.calupd 3)
    { withX [(3, 1)] with cfg := { Config.refcfg with calFullScale := 0 }, cal := ⟨0x00013333#32, ONE, 0x35, 0⟩ })
    [.calVpc, .calValid] = some [MAX, 1] := by decide +kernel

/-! ### The port (95 section 3, P4) -/

theorem test_port_illegal : reads (step (pending (.wr 0x10#8 0x01301201#32))) [.cmd, .status, .x 3] =
    some [0x01301201#32, 4, 0] := by decide +kernel
theorem test_port_read_only : reads (step (pending (.wr 0x20#8 0x000004D2#32))) [.outCmpA, .status] =
    some [0, 8] := by decide +kernel
theorem test_port_unmapped_read : (got (step (pending (.rd 0x12#8)))).rdData = some 0 ∧
    (got (step (pending (.rd 0x12#8)))).status = 8 := by decide +kernel
theorem test_first_command_after_reset :
    (step (State.reset.withFetchWord 32 0x01301200)) = exec (.add 3 1 2) { State.reset with cmd := 0x01301200#32 } := rfl

/-! ### Witnesses: concrete data that meet the hypotheses of the statements together, at the edges of each clause -/

theorem witness_EncodeOfDecode : decode 0x35000000#32 = .ok .tick ∧ decode 0x30FFFFFF#32 =
    .ok (.pllstep 15 15 15 15 15 15) := by decide
theorem witness_LegalWordsDecode : decode 0x01301200#32 = .ok (.add 3 1 2) := by decide
theorem witness_IllegalCommandSetsIll :
    (pending (.wr 0x10#8 0x0B000000#32)).port = [.wr 0x10#8 0x0B000000#32] ∧ ¬LegalWord 0x0B000000#32 ∧
    ¬LegalWord 0x00000001#32 ∧ ¬LegalWord 0xFFFFFFFF#32 := by unfold LegalWord; decide +kernel
theorem witness_StepRunsTheCommand : (pending (.wr 0x10#8 0x35000000#32)).port = [.wr 0x10#8 0x35000000#32] ∧
    decode 0x35000000#32 = .ok .tick := by decide +kernel
theorem witness_HostWriteStores : (pending (.wr 0x1F#8 7)).port = [.wr 0x1F#8 7] ∧
    Reg.ofIndex 0x1F#8 = some .iqRef ∧ Reg.iqRef.access = .rw ∧ Reg.iqRef ≠ .cmd ∧
    Reg.ofIndex 0x00#8 = some (.x 0) ∧ (Reg.x 0).access = .rw := by decide +kernel
theorem witness_RefusedAccessSetsAcc :
    ((pending (.wr 0xFF#8 1)).port = [.wr 0xFF#8 1] ∧ Reg.ofIndex 0xFF#8 = none) ∧
    ((pending (.wr 0x20#8 1)).port = [.wr 0x20#8 1] ∧ Reg.ofIndex 0x20#8 = some .outCmpA ∧ Reg.outCmpA.access = .ro) ∧
    ((pending (.rd 0x12#8)).port = [.rd 0x12#8] ∧ Reg.ofIndex 0x12#8 = none) := by decide +kernel
theorem witness_HostReadReturns : (pending (.rd 0x11#8)).port = [.rd 0x11#8] ∧
    Reg.ofIndex 0x11#8 = some .status := by decide +kernel
theorem witness_RegisterMapLayout : Reg.ofIndex 0x73#8 = some .calValid ∧ Reg.ofIndex 0x74#8 = none := by decide
theorem witness_ResetReadsZero : (pending .reset).port = [.reset] := rfl
theorem witness_StepAlwaysCompletes : ref.port = [] := rfl
theorem witness_AsrShiftsArithmetically :
    ((withX [(2, 0)]).getX 2).toInt = (0 : Nat) ∧ ((withX [(2, 31)]).getX 2).toInt = (31 : Nat) ∧
    ((withX [(2, 0xFFFFFFFF#32)]).getX 2).toInt < 0 ∧ 31 < ((withX [(2, 32)]).getX 2).toInt := by decide +kernel
theorem witness_MulDivSymmetric :
    (-2147483648 < (mul 3 0x8000#32).toInt ∧ (mul 3 0x8000#32).toInt < 2147483647 ∧ 3#32 ≠ MIN ∧
      0x8000#32 ≠ MIN) ∧
    (-2147483648 < (div ONE 0x30000#32).toInt ∧ (div ONE 0x30000#32).toInt < 2147483647 ∧ ONE ≠ MIN ∧
      0x30000#32 ≠ MIN) := by decide +kernel
theorem witness_KernelMonotone : MIN.toInt ≤ MAX.toInt ∧ 0 ≤ (0#32 : Word).toInt ∧ 0 < (1#32 : Word).toInt := by
  decide
theorem witness_WrapKeepsAngleRange : wrappedAngle 0x00010000#32 ∧ wrappedAngle 0xFFFF0001#32 ∧
    -131072 ≤ (0xFFFE0000#32 : Word).toInt ∧ (0x00020000#32 : Word).toInt ≤ 131072 := by
  unfold wrappedAngle; decide +kernel
theorem witness_destinations : (1 : RegIdx) ≠ 2 ∧ (1 : RegIdx) ≠ 3 ∧ (2 : RegIdx) ≠ 3 := by decide
theorem witness_SincosExactOnBypass : (0x00030000#32 : Word).toInt % 65536 = 0 ∧
    (0xFFFFC000#32 : Word).toInt % 65536 = 49152 := by decide +kernel
theorem witness_ParkRoundTripAtZero : (0x80000000#32 : Word).toInt % 65536 = 0 := by decide +kernel
theorem witness_PidOutputBounded : Config.refcfg.pid0.boundsOk = true := by decide
theorem witness_AntiWindupHolds : (PidRegs.mk 0x34BC#32 0#32).prev = 0 ∧
    Config.refcfg.pid0.outMax.toInt < (addSat (addSat (mul Config.refcfg.pid0.kp (subSat 0x18000#32 0))
      (pidDeriv Config.refcfg.pid0 ⟨0x34BC#32, 0⟩ 0 3))
      (pidCandidate Config.refcfg.pid0 ⟨0x34BC#32, 0⟩ 0x18000#32 0 3)).toInt := by decide +kernel
theorem witness_SlewNeverOvershoots :
    ((0#32 : Word).toInt ≤ (0x10000#32 : Word).toInt ∧ (mul Config.refcfg.slew0.up 3).toInt < 2147483647) ∧
    ((0xFFFF0000#32 : Word).toInt ≤ (0#32 : Word).toInt ∧ (mul Config.refcfg.slew0.dn 3).toInt < 2147483647) := by
  decide +kernel
theorem witness_PllBounds :
    Config.refcfg.pllSpeedOk = true ∧ Config.refcfg.pllIntegOk = true ∧ Config.refcfg.pllLowerClamp = false ∧
    { Config.refcfg with pllLowerClamp := true }.pllSpeedOk = true := by decide
theorem witness_SvpwmRanges : Config.refcfg.pwmMaxOk = true ∧ { Config.refcfg with pwmMax := 32767#32 }.pwmMaxOk = true ∧
    { Config.refcfg with pwmMax := 0#32 }.pwmMaxOk = true := by decide
theorem witness_DutiesLinear :
    max (max (0x8000#32 : Word).toInt (0#32 : Word).toInt) (0xFFFF8000#32 : Word).toInt -
      min (min (0x8000#32 : Word).toInt (0#32 : Word).toInt) (0xFFFF8000#32 : Word).toInt ≤ 65536 := by decide +kernel
theorem witness_TickTripsOnOverCurrent :
    { ref with inp := { InRegs.zero with ic := 0x00140001#32 } }.PhaseOverCurrent ∧
    { ref with inp := { InRegs.zero with ia := MIN } }.PhaseOverCurrent := by
  unfold State.PhaseOverCurrent exceedsLimit; decide +kernel
theorem witness_TickInStopAndFail :
    (¬{ ref with inp := { InRegs.zero with ia := 0x00140000#32 } }.PhaseOverCurrent ∧ ref.get .stState = 0) ∧
    (¬{ ref with st := { StRegs.zero with state := .fail } }.PhaseOverCurrent ∧
      { ref with st := { StRegs.zero with state := .fail } }.get .stState = 5) := by
  unfold State.PhaseOverCurrent exceedsLimit; decide +kernel
/-- `ref` in startup state `st` after `n` ticks, with a phase current at the limit of the interlock. -/
def active (st : StState) (n : Word) : State :=
  { ref with
    st := ⟨st, n, 0, 0, 0, 0⟩
    inp := { InRegs.zero with ib := 0xFFEC0000#32 } }

/-- The premises of the pipeline in each active state, a sample at the limit. -/
theorem witness_TickRunsThePipeline : ∀ st ∈ [StState.align, .ramp, .blend, .run],
    ¬(active st 5).PhaseOverCurrent ∧ (active st 5).get .stState ≠ 0 ∧ (active st 5).get .stState ≠ 5 := by
  unfold State.PhaseOverCurrent exceedsLimit; decide +kernel
/-- Both ends of the pipeline are taken: the RAMP update at the timeout reaches FAIL without a handoff signal,
BLEND with one (R204). -/
theorem witness_pipeline_timeout :
    (got (exec .tick { active .ramp 5 with inp := .zero })).st.state = .fail ∧
    (got (exec .tick (active .ramp 5))).st.state = .blend := by
  decide +kernel
theorem witness_FaultsEndInSafeStop :
    (got (exec .tick ref)).st.state = .stop ∧
    (got (exec .tick { ref with st := { StRegs.zero with state := .fail } })).st.state = .fail := by decide +kernel
/-- The clauses of `IsRounded`: a divisor that is not 0, a zero divisor under 0 and under a negative dividend. -/
theorem witness_IsRounded : Config.refcfg.calFullScale.toInt ≠ 0 ∧ (0#32 : Word).toInt = 0 ∧
    0 ≤ (0#32 : Word).toInt ∧ (0xFFFFFFFF#32 : Word).toInt < 0 := by decide
theorem witness_CalupdBlends : ((withX [(3, 0)]).getX 3).toInt ≤ 0 ∧ 0 < ((withX [(3, 1)]).getX 3).toInt := by
  decide +kernel
theorem witness_NopChangesNothing : (pending (.wr 0x10#8 0#32)).port = [.wr 0x10#8 0#32] := rfl
theorem witness_ReservedValuesNeverProduced : (pending (.rd 0xFF#8)).ReservedOk ∧
    step (pending (.rd 0xFF#8)) = .next (got (step (pending (.rd 0xFF#8)))) :=
  ⟨by unfold State.ReservedOk; decide +kernel, rfl⟩
theorem witness_OutputRangesKept : (pending (.wr 0x10#8 0x32001200#32)).RangesOk ∧
    step (pending (.wr 0x10#8 0x32001200#32)) = .next (got (step (pending (.wr 0x10#8 0x32001200#32)))) :=
  ⟨by unfold State.RangesOk State.GainOk OutRegs.Ok inUnit inCompareRange; decide +kernel, rfl⟩
theorem witness_ForcedAngleKept : (pending (.wr 0x10#8 0x33000000#32)).ForcedAngleOk ∧
    step (pending (.wr 0x10#8 0x33000000#32)) = .next (got (step (pending (.wr 0x10#8 0x33000000#32)))) :=
  ⟨by unfold State.ForcedAngleOk wrappedAngle; decide +kernel, rfl⟩
theorem witness_InvariantsHoldAtReset : Config.refcfg.WellFormed = true := by decide
theorem witness_StartupArrows : (pending (.wr 0x10#8 0x33000000#32)).port = [.wr 0x10#8 0x33000000#32] ∧
    step (pending (.wr 0x10#8 0x33000000#32)) = .next (got (step (pending (.wr 0x10#8 0x33000000#32)))) := ⟨rfl, rfl⟩
theorem witness_StatusBitsSticky :
    (statusBit (4#32) .ill = true ∧
      statusBit (got (step { pending (.wr 0x10#8 0x37000000#32) with status := 4 })).status .ill = false) ∧
    (statusBit (1#32) .oc = true ∧
      statusBit (got (step { pending (.wr 0x10#8 0x33000000#32) with status := 1 })).status .oc = false) ∧
    (statusBit (8#32) .acc = true ∧
      statusBit (got (step { pending .reset with status := 8 })).status .acc = false) := by decide +kernel
theorem witness_CommandsLeaveInputsAndCalibrator :
    (∀ rs1 rs2, Instr.tick ≠ .calinit rs1 rs2) ∧ ∀ rs1, Instr.tick ≠ .calupd rs1 := by
  constructor <;> intros <;> simp

end Sys2Proof.Tests
end

section
/-! The fixed-point unit (40_fixed_point_kernel.md): what each command of it answers, the frame of a write to a
general register, the kernel functions as the relations of the rules, and the statements about the nine commands. -/

namespace Sys2Proof.Machine

/-! ### The answer of each command -/

theorem exec_add (rd rs1 rs2 : RegIdx) (s : State) :
    exec (.add rd rs1 rs2) s = .next (s.setX rd (addSat (s.getX rs1) (s.getX rs2))) := rfl

theorem exec_sub (rd rs1 rs2 : RegIdx) (s : State) :
    exec (.sub rd rs1 rs2) s = .next (s.setX rd (subSat (s.getX rs1) (s.getX rs2))) := rfl

theorem exec_mul (rd rs1 rs2 : RegIdx) (s : State) :
    exec (.mul rd rs1 rs2) s = .next (s.setX rd (mul (s.getX rs1) (s.getX rs2))) := rfl

theorem exec_div (rd rs1 rs2 : RegIdx) (s : State) :
    exec (.div rd rs1 rs2) s = .next (s.setX rd (div (s.getX rs1) (s.getX rs2))) := rfl

theorem exec_fromint (rd rs1 : RegIdx) (s : State) :
    exec (.fromint rd rs1) s = .next (s.setX rd (fromInt (s.getX rs1))) := rfl

theorem exec_toint (rd rs1 : RegIdx) (s : State) :
    exec (.toint rd rs1) s = .next (s.setX rd (toIntQ (s.getX rs1))) := rfl

theorem exec_fromfrac (rd rs1 rs2 : RegIdx) (s : State) :
    exec (.fromfrac rd rs1 rs2) s = .next (s.setX rd (fromFraction (s.getX rs1) (s.getX rs2))) := rfl

theorem exec_wrap (rd rs1 : RegIdx) (s : State) :
    exec (.wrap rd rs1) s = .next (s.setX rd (wrap (s.getX rs1))) := rfl

theorem exec_asr (rd rs1 rs2 : RegIdx) (s : State) :
    exec (.asr rd rs1 rs2) s = .next (s.setX rd (asrWord (s.getX rs1) (shiftAmount (s.getX rs2)))) := rfl

/-! ### The frame -/

/-- A write to a general register changes that register alone (R109). -/
theorem State.sameBut_setX (s : State) (n : RegIdx) (v : Word) : SameBut [.x n] s (s.setX n v) := by
  refine ⟨fun r hr => ?_, s.cfg_setX n v, s.port_setX n v, s.rdData_setX n v⟩
  have hne : r ≠ .x n := List.ne_of_not_mem_cons hr
  rw [State.get_setX, if_neg hne]

/-! ### The kernel functions as relations -/

theorem mul_isProduct (a b : Word) : IsProduct a b (mul a b) :=
  ⟨rdiv (a.toInt * b.toInt) 65536, rdiv_roundsTo _ _ (by decide), sat32_toInt _⟩

/-- The zero divisor needs no case of its own: `rdiv` by 0 already answers the extreme of the dividend's sign, and
scaling by 2^16 keeps that sign. -/
theorem div_eq_sat32_rdiv (a b : Word) : div a b = sat32 (rdiv (a.toInt * 65536) b.toInt) := by
  unfold div
  split
  next hb =>
    rw [hb, rdiv_by_zero]
    by_cases ha : a.toInt ≥ 0
    · rw [if_pos ha, if_pos (by omega)]
      rfl
    · rw [if_neg ha, if_neg (by omega)]
      rfl
  next => rfl

theorem div_isQuotient (a b : Word) : IsQuotient a b (div a b) := by
  rw [div_eq_sat32_rdiv]
  exact sat32_rdiv_isRounded _ _

/-- FROMFRAC is the same function as DIV on plain integers: the scales of the two operands cancel (R106). -/
theorem fromFraction_eq_div (num den : Word) : fromFraction num den = div num den := rfl

@[simp] theorem fromInt_toInt (i : Word) : (fromInt i).toInt = saturated (i.toInt * 65536) := sat32_toInt _

@[simp] theorem toIntQ_toInt (a : Word) : (toIntQ a).toInt = a.toInt / 65536 :=
  (asrWord_toInt a 16).trans (by norm_num)

theorem wrap_isWrapped (a : Word) : Rule.IsWrapped a (wrap a) := by
  have hw := wrap_toInt a
  refine ⟨fun habove => ?_, fun hbelow => ?_, fun hlo hhi => BitVec.eq_of_toInt_eq ?_⟩
  · rw [hw, if_pos habove]
  · rw [hw, if_neg (by omega), if_pos hbelow]
  · rw [hw, if_neg (by omega), if_neg (by omega)]

theorem shiftAmount_of_le (w : Word) (n : Nat) (hn : n ≤ 31) (hw : w.toInt = n) : shiftAmount w = n := by
  rw [shiftAmount, if_neg (by omega), hw, Int.toNat_natCast]

theorem shiftAmount_of_outside (w : Word) (hw : w.toInt < 0 ∨ 31 < w.toInt) : shiftAmount w = 31 :=
  if_pos hw

/-! ### The statements -/

/-- Settles O13: both sums are exact integers that `sat32` brings back to a word. -/
theorem addSubSaturate : Obligations.AddSubSaturate := by
  intro s rd rs1 rs2
  refine ⟨⟨⟨rfl, rfl⟩, _, exec_add rd rs1 rs2 s, ?_, s.sameBut_setX _ _⟩,
    ⟨rfl, rfl⟩, _, exec_sub rd rs1 rs2 s, ?_, s.sameBut_setX _ _⟩
  · rw [State.getX_setX_self, addSat_toInt]
  · rw [State.getX_setX_self, subSat_toInt]

/-- Settles O14, by the rounding of `rdiv`. -/
theorem mulRoundsAndSaturates : Obligations.MulRoundsAndSaturates := by
  intro s rd rs1 rs2
  refine ⟨⟨rfl, rfl⟩, _, exec_mul rd rs1 rs2 s, ?_, s.sameBut_setX _ _⟩
  rw [State.getX_setX_self]
  exact mul_isProduct _ _

/-- Settles O15: DIV is one saturated `rdiv`, the zero divisor included, and FROMFRAC is DIV. -/
theorem divFromfracRoundAndSaturate : Obligations.DivFromfracRoundAndSaturate := by
  intro s rd rs1 rs2
  refine ⟨⟨⟨rfl, rfl⟩, _, exec_div rd rs1 rs2 s, ?_, s.sameBut_setX _ _⟩,
    ⟨rfl, rfl⟩, _, exec_fromfrac rd rs1 rs2 s, ?_, s.sameBut_setX _ _⟩
  · rw [State.getX_setX_self]
    exact div_isQuotient _ _
  · rw [State.getX_setX_self, fromFraction_eq_div]
    exact div_isQuotient _ _

/-- Settles O16: FROMINT saturates, TOINT is a shift by 16, which is the floor. -/
theorem integerConversions : Obligations.IntegerConversions := by
  intro s rd rs1
  refine ⟨⟨⟨rfl, rfl⟩, _, exec_fromint rd rs1 s, ?_, s.sameBut_setX _ _⟩,
    ⟨rfl, rfl⟩, _, exec_toint rd rs1 s, ?_, s.sameBut_setX _ _⟩
  · rw [State.getX_setX_self, fromInt_toInt]
  · rw [State.getX_setX_self, toIntQ_toInt]

/-- Settles O17, by the three ranges of the angle. -/
theorem wrapCorrectsOnce : Obligations.WrapCorrectsOnce := by
  intro s rd rs1
  refine ⟨⟨rfl, rfl⟩, _, exec_wrap rd rs1 s, ?_, s.sameBut_setX _ _⟩
  rw [State.getX_setX_self]
  exact wrap_isWrapped _

/-- Settles O18, by the two ranges of the shift amount. -/
theorem asrShiftsArithmetically : Obligations.AsrShiftsArithmetically := by
  intro s rd rs1 rs2
  refine ⟨⟨rfl, rfl⟩, _, exec_asr rd rs1 rs2 s, fun n hn hamount => ?_, fun houtside => ?_, s.sameBut_setX _ _⟩
  · rw [State.getX_setX_self, asrWord_toInt, shiftAmount_of_le _ n hn hamount]
  · rw [State.getX_setX_self, asrWord_toInt, shiftAmount_of_outside _ houtside]

end Sys2Proof.Machine
end

section
/-! The sine/cosine engine (41_cordic_sincos.md): each stage of `sincos` as the relation its rule states, the pair as
`IsSincos`, a write to two general registers, and the statement about SINCOS. -/

namespace Sys2Proof.Machine

/-! ### Range reduction and quadrant flip -/

/-- The mask keeps the residue of the angle modulo one turn. -/
theorem turnFraction_toNat (a : Word) : (a &&& 0x0000FFFF#32).toNat = a.toNat % 65536 := by
  rw [BitVec.toNat_and]
  exact Nat.and_two_pow_sub_one_eq_mod a.toNat 16

theorem reduceTurn_eq (a : Word) :
    reduceTurn a = if a.toNat % 65536 > 32768 then (a.toNat % 65536 : Int) - 65536 else a.toNat % 65536 := by
  simp only [reduceTurn, turnFraction_toNat]
  split <;> split <;> omega

theorem reduceTurn_lower (a : Word) : -32768 < reduceTurn a := by
  rw [reduceTurn_eq]
  split <;> omega

theorem reduceTurn_upper (a : Word) : reduceTurn a ≤ 32768 := by
  rw [reduceTurn_eq]
  split <;> omega

/-- The reduction removes whole turns alone (R131): the word's own wrap, 2^32, is a number of whole turns. -/
theorem turn_dvd_sub_reduceTurn (a : Word) : (65536 : Int) ∣ a.toInt - reduceTurn a := by
  rw [reduceTurn_eq, BitVec.toInt_eq_toNat_cond]
  split <;> split <;> omega

theorem quadrantFlip_plus (t : Int) (h : 16384 < t) : quadrantFlip t = (t - 16384, .plus) := if_pos h

theorem quadrantFlip_minus (t : Int) (h : t ≤ -16384) : quadrantFlip t = (t + 16384, .minus) := by
  rw [quadrantFlip, if_neg (by omega), if_pos h]

theorem quadrantFlip_none (t : Int) (hlo : -16384 < t) (hhi : t ≤ 16384) : quadrantFlip t = (t, .none) := by
  rw [quadrantFlip, if_neg (by omega), if_neg (by omega)]

/-! ### Rotation -/

/-- The exact integers of a rotation vector, as the rules speak of them. -/
def CordicVec.ints (v : CordicVec) : Int × Int × Int := (v.x.toInt, v.y.toInt, v.z.toInt)

theorem cordicIter_step (i : Nat) (atan : Word) (v : CordicVec) :
    Rule.CordicStep atan.toInt i v.ints (cordicIter i atan v).ints := by
  refine ⟨fun hz => ?_, fun hz => ?_⟩
  · have hpos : v.z.toInt ≥ 0 := hz
    simp [cordicIter, CordicVec.ints, asrInt, hpos]
  · have hneg : ¬v.z.toInt ≥ 0 := not_le.mpr hz
    simp [cordicIter, CordicVec.ints, asrInt, hneg]

/-- The last entry of a table is the last iteration of its run. -/
theorem cordicRun_concat (i : Nat) (table : List Word) (atan : Word) (v : CordicVec) :
    cordicRun i (table ++ [atan]) v = cordicIter (i + table.length) atan (cordicRun i table v) := by
  induction table generalizing i v with
  | nil => rfl
  | cons first rest ih =>
    calc cordicRun i (first :: rest ++ [atan]) v
        = cordicRun (i + 1) (rest ++ [atan]) (cordicIter i first v) := rfl
      _ = cordicIter (i + 1 + rest.length) atan (cordicRun (i + 1) rest (cordicIter i first v)) := ih _ _
      _ = cordicIter (i + (first :: rest).length) atan (cordicRun i (first :: rest) v) := by
        rw [List.length_cons, Nat.add_right_comm, Nat.add_assoc]; rfl

/-- The vector after the first `n` iterations from the start vector of `phi` (R133). -/
def cordicAfter (c : Config) (phi : Int) (n : Nat) : CordicVec :=
  cordicRun 0 (c.cordicAtan.toList.take n) ⟨c.cordicK, 0, BitVec.ofInt 32 phi⟩

theorem cordicAfter_zero (c : Config) (phi : Int) : cordicAfter c phi 0 = ⟨c.cordicK, 0, BitVec.ofInt 32 phi⟩ := rfl

theorem cordicAfter_succ (c : Config) (phi : Int) (i : Nat) (h : i < 12) :
    cordicAfter c phi (i + 1) = cordicIter i (c.cordicAtan[i]'h) (cordicAfter c phi i) := by
  have hi : i < c.cordicAtan.toList.length := by simpa using h
  rw [cordicAfter, List.take_succ_eq_append_getElem hi, cordicRun_concat, Vector.getElem_toList,
    List.length_take_of_le hi.le, Nat.zero_add, cordicAfter]

theorem cordicRotate_zero (c : Config) : cordicRotate c 0 = (ONE, 0) := rfl

theorem cordicRotate_of_ne (c : Config) (phi : Int) (h : phi ≠ 0) :
    cordicRotate c phi = ((cordicAfter c phi 12).x, (cordicAfter c phi 12).y) := by
  have hall : c.cordicAtan.toList.take 12 = c.cordicAtan.toList := List.take_of_length_le (by simp)
  rw [cordicRotate, if_neg h, cordicAfter, hall]

/-- `(x, y)` is the rotation of `phi`: the bypass at 0, the end of twelve iterations elsewhere (R133). -/
def IsRotated (c : Config) (phi x y : Int) : Prop :=
  (phi = 0 → x = 65536 ∧ y = 0) ∧
  (phi ≠ 0 → ∃ v : Nat → Int × Int × Int, v 0 = (c.cordicK.toInt, 0, phi) ∧
    (∀ i, ∀ h : i < 12, Rule.CordicStep (c.cordicAtan[i]'h).toInt i (v i) (v (i + 1))) ∧
    (v 12).1 = x ∧ (v 12).2.1 = y)

/-- The angle range makes the residual angle's word hold the integer `phi` itself. -/
theorem cordicRotate_isRotated (c : Config) (phi : Int) (hlo : -16384 ≤ phi) (hhi : phi ≤ 16384) :
    IsRotated c phi (cordicRotate c phi).1.toInt (cordicRotate c phi).2.toInt := by
  refine ⟨?bypass, fun hne => ⟨fun n => (cordicAfter c phi n).ints, ?start, fun i hi => ?iter, ?_⟩⟩
  case bypass =>
    rintro rfl
    rw [cordicRotate_zero]
    decide
  case start =>
    have hphi : (BitVec.ofInt 32 phi).toInt = phi := toInt_ofInt_of_mem phi (by omega) (by omega)
    simp [cordicAfter_zero, CordicVec.ints, hphi]
  case iter => simpa only [cordicAfter_succ c phi i hi] using cordicIter_step i _ _
  · rw [cordicRotate_of_ne c phi hne]
    exact ⟨rfl, rfl⟩

/-! ### The pair -/

/-- `sincos` is the pair of R131 to R134, by the three quadrants the reduced angle can be in. -/
theorem sincos_isSincos (c : Config) (a : Word) : Rule.IsSincos c a (sincos c a).1 (sincos c a).2 := by
  have hlo := reduceTurn_lower a
  have hhi := reduceTurn_upper a
  have hdvd := turn_dvd_sub_reduceTurn a
  rw [sincos]
  generalize reduceTurn a = t at hlo hhi hdvd ⊢
  rcases (by omega : 16384 < t ∨ t ≤ -16384 ∨ -16384 < t ∧ t ≤ 16384) with hplus | hminus | ⟨hnone, hnone'⟩
  · obtain ⟨hzero, hiter⟩ := cordicRotate_isRotated c (t - 16384) (by omega) (by omega)
    rw [quadrantFlip_plus t hplus]
    exact ⟨t, t - 16384, _, _, hlo, hhi, hdvd, hzero, hiter, .inl ⟨hplus, rfl, rfl, negSat_toInt _⟩⟩
  · obtain ⟨hzero, hiter⟩ := cordicRotate_isRotated c (t + 16384) (by omega) (by omega)
    rw [quadrantFlip_minus t hminus]
    exact ⟨t, t + 16384, _, _, hlo, hhi, hdvd, hzero, hiter, .inr (.inl ⟨hminus, rfl, negSat_toInt _, rfl⟩)⟩
  · obtain ⟨hzero, hiter⟩ := cordicRotate_isRotated c t hnone.le hnone'
    rw [quadrantFlip_none t hnone hnone']
    exact ⟨t, t, _, _, hlo, hhi, hdvd, hzero, hiter, .inr (.inr ⟨hnone, hnone', rfl, rfl, rfl⟩)⟩

/-! ### A write to two general registers -/

/-- The later write wins (R87). -/
@[simp] theorem State.getX_setX2_second (s : State) (rd rd2 : RegIdx) (v v2 : Word) :
    (s.setX2 rd rd2 v v2).getX rd2 = v2 := State.getX_setX_self _ rd2 v2

theorem State.getX_setX2_first (s : State) (rd rd2 : RegIdx) (v v2 : Word) (h : rd ≠ rd2) :
    (s.setX2 rd rd2 v v2).getX rd = v :=
  (State.getX_setX_ne _ rd2 rd v2 h).trans (s.getX_setX_self rd v)

/-- A write to two general registers changes those two alone. -/
theorem State.sameBut_setX2 (s : State) (rd rd2 : RegIdx) (v v2 : Word) :
    SameBut [.x rd, .x rd2] s (s.setX2 rd rd2 v v2) := by
  refine ⟨fun r hr => ?_, s.cfg_setX2 rd rd2 v v2, s.port_setX2 rd rd2 v v2, s.rdData_setX2 rd rd2 v v2⟩
  have hfirst : r ≠ .x rd := List.ne_of_not_mem_cons hr
  have hsecond : r ≠ .x rd2 := List.ne_of_not_mem_cons (List.not_mem_of_not_mem_cons hr)
  rw [State.setX2, State.get_setX, if_neg hsecond, State.get_setX, if_neg hfirst]

/-! ### The statement -/

theorem exec_sincos (rd rd2 rs1 : RegIdx) (s : State) :
    exec (.sincos rd rd2 rs1) s =
      .next (s.setX2 rd rd2 (sincos s.cfg (s.getX rs1)).1 (sincos s.cfg (s.getX rs1)).2) := rfl

/-- Settles O22: SINCOS writes `sincos` of its operand, which is the pair of R131 to R134. -/
theorem sincosWritesThePair : Obligations.SincosWritesThePair := by
  intro s rd rd2 rs1
  exact ⟨⟨rfl, rfl⟩, _, _, _, exec_sincos rd rd2 rs1 s, sincos_isSincos _ _, s.getX_setX2_second _ _ _ _,
    s.getX_setX2_first _ _ _ _, s.sameBut_setX2 _ _ _ _⟩

end Sys2Proof.Machine
end

section
/-! The transforms (42_transforms.md): each transform function as the relation its rule states, a write to three
general registers, what each of the four commands answers, and the statements about them. -/

namespace Sys2Proof.Machine

/-! ### The transform functions as relations -/

theorem addSat_isSum (a b : Word) : Rule.IsSum a b (addSat a b) := addSat_toInt a b

theorem subSat_isDiff (a b : Word) : Rule.IsDiff a b (subSat a b) := subSat_toInt a b

/-- The doubling of b and the outer sum each saturate on their own (R140). -/
theorem clarke_isClarke (a b : Word) : Rule.IsClarke a b (clarke a b).1 (clarke a b).2 :=
  ⟨rfl, addSat b b, addSat a (addSat b b), addSat_isSum _ _, addSat_isSum _ _, mul_isProduct _ INV_SQRT3⟩

/-- A shift by one is the floor of the half (R11). -/
theorem asrWord_one_toInt (v : Word) : (asrWord v 1).toInt = v.toInt / 2 := asrWord_toInt v 1

theorem iclarke_isIclarke (al be : Word) :
    Rule.IsIclarke al be (iclarke al be).1 (iclarke al be).2.1 (iclarke al be).2.2 := by
  refine ⟨rfl, mul be SQRT3_2, mul_isProduct _ SQRT3_2, ?phaseB, ?phaseC⟩
  case phaseB =>
    calc (subSat (mul be SQRT3_2) (asrWord al 1)).toInt
        = saturated ((mul be SQRT3_2).toInt - (asrWord al 1).toInt) := subSat_toInt _ _
      _ = saturated ((mul be SQRT3_2).toInt - al.toInt / 2) := by rw [asrWord_one_toInt]
  case phaseC =>
    calc (negSat (addSat (asrWord al 1) (mul be SQRT3_2))).toInt
        = saturated (-saturated ((asrWord al 1).toInt + (mul be SQRT3_2).toInt)) := by
          rw [negSat_toInt, addSat_toInt]
      _ = saturated (-saturated (al.toInt / 2 + (mul be SQRT3_2).toInt)) := by rw [asrWord_one_toInt]

/-- The four products are rounded before the sum and the difference saturate (R142). -/
theorem parkSc_isPark (al be sn cs : Word) :
    Rule.IsPark al be sn cs (parkSc al be sn cs).1 (parkSc al be sn cs).2 :=
  ⟨mul al cs, mul be sn, mul be cs, mul al sn, mul_isProduct _ _, mul_isProduct _ _, mul_isProduct _ _,
    mul_isProduct _ _, addSat_isSum _ _, subSat_isDiff _ _⟩

/-- The four products are rounded before the difference and the sum saturate (R143). -/
theorem iparkSc_isIpark (d q sn cs : Word) :
    Rule.IsIpark d q sn cs (iparkSc d q sn cs).1 (iparkSc d q sn cs).2 :=
  ⟨mul d cs, mul q sn, mul d sn, mul q cs, mul_isProduct _ _, mul_isProduct _ _, mul_isProduct _ _,
    mul_isProduct _ _, subSat_isDiff _ _, addSat_isSum _ _⟩

/-! ### A write to three general registers -/

/-- The third write comes after the first two (R87). -/
theorem State.setX3_eq_setX2_setX (s : State) (rd rd2 rd3 : RegIdx) (v v2 v3 : Word) :
    s.setX3 rd rd2 rd3 v v2 v3 = (s.setX2 rd rd2 v v2).setX rd3 v3 := rfl

/-- The last write wins (R87). -/
@[simp] theorem State.getX_setX3_third (s : State) (rd rd2 rd3 : RegIdx) (v v2 v3 : Word) :
    (s.setX3 rd rd2 rd3 v v2 v3).getX rd3 = v3 := State.getX_setX_self _ rd3 v3

theorem State.getX_setX3_second (s : State) (rd rd2 rd3 : RegIdx) (v v2 v3 : Word) (h : rd2 ≠ rd3) :
    (s.setX3 rd rd2 rd3 v v2 v3).getX rd2 = v2 := by
  rw [State.setX3_eq_setX2_setX, State.getX_setX_ne _ rd3 rd2 v3 h, State.getX_setX2_second]

theorem State.getX_setX3_first (s : State) (rd rd2 rd3 : RegIdx) (v v2 v3 : Word) (h : rd ≠ rd2) (h3 : rd ≠ rd3) :
    (s.setX3 rd rd2 rd3 v v2 v3).getX rd = v := by
  rw [State.setX3_eq_setX2_setX, State.getX_setX_ne _ rd3 rd v3 h3, State.getX_setX2_first _ _ _ _ _ h]

/-- A write to three general registers changes those three alone. -/
theorem State.sameBut_setX3 (s : State) (rd rd2 rd3 : RegIdx) (v v2 v3 : Word) :
    SameBut [.x rd, .x rd2, .x rd3] s (s.setX3 rd rd2 rd3 v v2 v3) := by
  refine ⟨fun r hr => ?_, s.cfg_setX3 .., s.port_setX3 .., s.rdData_setX3 ..⟩
  obtain ⟨hfirst, hsecond, hthird⟩ : r ≠ .x rd ∧ r ≠ .x rd2 ∧ r ≠ .x rd3 := by simpa using hr
  obtain ⟨hframe, -⟩ := s.sameBut_setX2 rd rd2 v v2
  rw [State.setX3_eq_setX2_setX, State.get_setX, if_neg hthird]
  exact hframe r (by simp [hfirst, hsecond])

/-! ### The answer of each command -/

theorem exec_clarke (rd rd2 rs1 rs2 : RegIdx) (s : State) :
    exec (.clarke rd rd2 rs1 rs2) s =
      .next (s.setX2 rd rd2 (clarke (s.getX rs1) (s.getX rs2)).1 (clarke (s.getX rs1) (s.getX rs2)).2) := rfl

theorem exec_iclarke (rd rd2 rd3 rs1 rs2 : RegIdx) (s : State) :
    exec (.iclarke rd rd2 rd3 rs1 rs2) s =
      .next (s.setX3 rd rd2 rd3 (iclarke (s.getX rs1) (s.getX rs2)).1 (iclarke (s.getX rs1) (s.getX rs2)).2.1
        (iclarke (s.getX rs1) (s.getX rs2)).2.2) := rfl

/-- PARK is `park_sc` on the pair that SINCOS of the angle operand gives (R142, R136). -/
theorem exec_park (rd rd2 rs1 rs2 rs3 : RegIdx) (s : State) (sn cs : Word)
    (hpair : sincos s.cfg (s.getX rs3) = (sn, cs)) :
    exec (.park rd rd2 rs1 rs2 rs3) s =
      .next (s.setX2 rd rd2 (parkSc (s.getX rs1) (s.getX rs2) sn cs).1
        (parkSc (s.getX rs1) (s.getX rs2) sn cs).2) := by
  change execPark rd rd2 rs1 rs2 rs3 s = _
  rw [execPark, hpair]

/-- IPARK is `ipark_sc` on the pair that SINCOS of the angle operand gives (R143, R136). -/
theorem exec_ipark (rd rd2 rs1 rs2 rs3 : RegIdx) (s : State) (sn cs : Word)
    (hpair : sincos s.cfg (s.getX rs3) = (sn, cs)) :
    exec (.ipark rd rd2 rs1 rs2 rs3) s =
      .next (s.setX2 rd rd2 (iparkSc (s.getX rs1) (s.getX rs2) sn cs).1
        (iparkSc (s.getX rs1) (s.getX rs2) sn cs).2) := by
  change execIpark rd rd2 rs1 rs2 rs3 s = _
  rw [execIpark, hpair]

/-! ### The statements -/

/-- Settles O25: CLARKE writes `clarke` of its operands. -/
theorem clarkeTransforms : Obligations.ClarkeTransforms := by
  intro s rd rd2 rs1 rs2
  exact ⟨⟨rfl, rfl⟩, _, _, _, exec_clarke rd rd2 rs1 rs2 s, clarke_isClarke _ _, s.getX_setX2_second _ _ _ _,
    s.getX_setX2_first _ _ _ _, s.sameBut_setX2 _ _ _ _⟩

/-- Settles O26: ICLARKE writes `iclarke` of its operands, phase c last. -/
theorem iclarkeTransforms : Obligations.IclarkeTransforms := by
  intro s rd rd2 rd3 rs1 rs2
  exact ⟨⟨rfl, rfl⟩, _, _, _, _, exec_iclarke rd rd2 rd3 rs1 rs2 s, iclarke_isIclarke _ _,
    s.getX_setX3_third _ _ _ _ _ _, s.getX_setX3_second _ _ _ _ _ _, s.getX_setX3_first _ _ _ _ _ _,
    s.sameBut_setX3 _ _ _ _ _ _⟩

/-- Settles O27: PARK writes `park_sc` of its operands and of the pair of R131 to R134. -/
theorem parkRotates : Obligations.ParkRotates := by
  intro s rd rd2 rs1 rs2 rs3
  exact ⟨⟨rfl, rfl⟩, _, _, _, _, _, exec_park rd rd2 rs1 rs2 rs3 s _ _ rfl, sincos_isSincos _ _,
    parkSc_isPark _ _ _ _, s.getX_setX2_second _ _ _ _, s.getX_setX2_first _ _ _ _, s.sameBut_setX2 _ _ _ _⟩

/-- Settles O28: IPARK writes `ipark_sc` of its operands and of the pair of R131 to R134. -/
theorem iparkRotatesBack : Obligations.IparkRotatesBack := by
  intro s rd rd2 rs1 rs2 rs3
  exact ⟨⟨rfl, rfl⟩, _, _, _, _, _, exec_ipark rd rd2 rs1 rs2 rs3 s _ _ rfl, sincos_isSincos _ _,
    iparkSc_isIpark _ _ _ _, s.getX_setX2_second _ _ _ _, s.getX_setX2_first _ _ _ _, s.sameBut_setX2 _ _ _ _⟩

end Sys2Proof.Machine
end

section
/-! The regulators (43_pid_slew_softstart.md): `pid`, `slew` and `softStart` as the relations their rules state, the
frame of a write to one of their records, what each of the six commands answers, and the statements about them. -/

namespace Sys2Proof.Machine

/-! ### Negation, maximum and clamp on exact integers -/

theorem negSat_isNeg (a : Word) : Rule.IsNeg a (negSat a) := negSat_toInt a

@[simp] theorem maxW_toInt (a b : Word) : (maxW a b).toInt = max a.toInt b.toInt := by
  unfold maxW
  split <;> omega

/-- With bounds in order the upper-first clamp of R13 is the symmetric one. -/
theorem clamp_toInt (v lo hi : Word) (h : lo.toInt ≤ hi.toInt) :
    (clamp v lo hi).toInt = max lo.toInt (min hi.toInt v.toInt) := by
  unfold clamp
  split
  · omega
  · split <;> omega

/-! ### The PID regulator -/

theorem pidDeriv_isDerivative (c : PidCfg) (r : PidRegs) (meas dt : Word) :
    Rule.PidDerivative c r meas dt (pidDeriv c r meas dt) := by
  refine ⟨fun hdt => ?_, fun hdt => ?_⟩
  · rw [pidDeriv, if_pos hdt]
    rfl
  · rw [pidDeriv, if_neg hdt]
    exact ⟨_, _, _, subSat_isDiff _ _, negSat_isNeg _, div_isQuotient _ _, mul_isProduct _ _⟩

theorem pidCandidate_isCandidate (c : PidCfg) (r : PidRegs) (sp meas dt : Word) :
    Rule.PidCandidate c r sp meas dt (pidCandidate c r sp meas dt) := by
  refine ⟨fun hdt => if_pos hdt, fun hdt => ?_⟩
  rw [pidCandidate, if_neg hdt]
  exact ⟨_, _, _, subSat_isDiff _ _, mul_isProduct _ _, mul_isProduct _ _, addSat_isSum _ _⟩

/-- The proportional and the derivative term together, before an integrator is added (R150). -/
def pidPd (c : PidCfg) (r : PidRegs) (sp meas dt : Word) : Word :=
  addSat (mul c.kp (subSat sp meas)) (pidDeriv c r meas dt)

/-- The output before the clamp, over the integral candidate (R150). -/
def pidRaw (c : PidCfg) (r : PidRegs) (sp meas dt : Word) : Word :=
  addSat (pidPd c r sp meas dt) (pidCandidate c r sp meas dt)

/-- The output before the clamp, over the integrator of the call before: it decides whether the candidate is committed
(R150). -/
def pidPre (c : PidCfg) (r : PidRegs) (sp meas dt : Word) : Word := addSat (pidPd c r sp meas dt) r.integ

section
variable (c : PidCfg) (r : PidRegs) (sp meas dt : Word)

theorem pid_of_above (h : c.outMax.toInt < (pidRaw c r sp meas dt).toInt) :
    pid c r sp meas dt =
      (c.outMax, ⟨if (pidPre c r sp meas dt).toInt < c.outMax.toInt then pidCandidate c r sp meas dt else r.integ,
        meas⟩) := if_pos h

theorem pid_of_below (hmax : (pidRaw c r sp meas dt).toInt ≤ c.outMax.toInt)
    (h : (pidRaw c r sp meas dt).toInt < c.outMin.toInt) :
    pid c r sp meas dt =
      (c.outMin, ⟨if c.outMin.toInt < (pidPre c r sp meas dt).toInt then pidCandidate c r sp meas dt else r.integ,
        meas⟩) := (if_neg hmax.not_gt).trans (if_pos h)

theorem pid_of_within (hmax : (pidRaw c r sp meas dt).toInt ≤ c.outMax.toInt)
    (hmin : c.outMin.toInt ≤ (pidRaw c r sp meas dt).toInt) :
    pid c r sp meas dt = (pidRaw c r sp meas dt, ⟨pidCandidate c r sp meas dt, meas⟩) :=
  (if_neg hmax.not_gt).trans (if_neg hmin.not_gt)

/-- PREV takes the measurement whether the output clamps or not. -/
theorem pid_prev : (pid c r sp meas dt).2.prev = meas := by
  rcases lt_or_ge c.outMax.toInt (pidRaw c r sp meas dt).toInt with habove | hmax
  · rw [pid_of_above c r sp meas dt habove]
  · rcases lt_or_ge (pidRaw c r sp meas dt).toInt c.outMin.toInt with hbelow | hmin
    · rw [pid_of_below c r sp meas dt hmax hbelow]
    · rw [pid_of_within c r sp meas dt hmax hmin]

/-- `pid` is the step of R150, by the three places of the raw output: above, below and within the bounds. -/
theorem pid_isPid : Rule.IsPid c r sp meas dt (pid c r sp meas dt).1 (pid c r sp meas dt).2 := by
  refine ⟨subSat sp meas, mul c.kp (subSat sp meas), pidDeriv c r meas dt, pidCandidate c r sp meas dt,
    pidPd c r sp meas dt, pidPre c r sp meas dt, pidRaw c r sp meas dt,
    subSat_isDiff _ _, mul_isProduct _ _, pidDeriv_isDerivative _ _ _ _, pidCandidate_isCandidate _ _ _ _ _,
    addSat_isSum _ _, addSat_isSum _ _, addSat_isSum _ _,
    fun habove => ?above, fun hmax hbelow => ?below, fun hmax hmin => ?within, pid_prev c r sp meas dt⟩
  case above =>
    rw [pid_of_above c r sp meas dt habove]
    exact ⟨rfl, fun hcommit => if_pos hcommit, fun hfreeze => if_neg hfreeze.not_gt⟩
  case below =>
    rw [pid_of_below c r sp meas dt hmax hbelow]
    exact ⟨rfl, fun hcommit => if_pos hcommit, fun hfreeze => if_neg hfreeze.not_gt⟩
  case within =>
    rw [pid_of_within c r sp meas dt hmax hmin]
    exact ⟨rfl, rfl⟩

end

/-! ### The slew limiter -/

/-- A negative product counts as 0 (R153). -/
@[simp] theorem slewBound_toInt (rate dt : Word) : (slewBound rate dt).toInt = max 0 (mul rate dt).toInt :=
  maxW_toInt 0 (mul rate dt)

section
variable (c : SlewCfg) (prev target dt : Word)

theorem slew_of_rising (h : 0 < (subSat target prev).toInt) :
    slew c prev target dt =
      if (subSat target prev).toInt ≤ (slewBound c.up dt).toInt then target else addSat prev (slewBound c.up dt) :=
  if_pos h

theorem slew_of_falling (h : (subSat target prev).toInt < 0) :
    slew c prev target dt =
      if (negSat (subSat target prev)).toInt ≤ (slewBound c.dn dt).toInt then target
      else subSat prev (slewBound c.dn dt) :=
  (if_neg h.not_gt).trans (if_pos h)

theorem slew_of_level (h : (subSat target prev).toInt = 0) : slew c prev target dt = target :=
  (if_neg h.not_gt).trans (if_neg h.not_lt)

/-- `slew` is the move of R153, by the sign of the saturated difference and by whether one step covers it. -/
theorem slew_isSlew : Rule.IsSlew c prev target dt (slew c prev target dt) := by
  refine ⟨subSat target prev, mul c.up dt, mul c.dn dt, subSat_isDiff _ _, mul_isProduct _ _, mul_isProduct _ _,
    fun hrise hnear => ?riseNear, fun hrise hfar => ?riseFar, fun hfall hnear => ?fallNear,
    fun hfall hfar => ?fallFar, fun hlevel => slew_of_level c prev target dt hlevel⟩
  case riseNear => rw [slew_of_rising c prev target dt hrise, slewBound_toInt, if_pos hnear]
  case riseFar =>
    rw [slew_of_rising c prev target dt hrise, slewBound_toInt, if_neg hfar.not_ge, addSat_toInt, slewBound_toInt]
  case fallNear => rw [slew_of_falling c prev target dt hfall, slewBound_toInt, negSat_toInt, if_pos hnear]
  case fallFar =>
    rw [slew_of_falling c prev target dt hfall, slewBound_toInt, negSat_toInt, if_neg hfar.not_ge, subSat_toInt,
      slewBound_toInt]

end

/-! ### The soft start -/

theorem truthOf_eq_true_iff (v : Word) : truthOf v = true ↔ v ≠ 0 := bne_iff_ne

section
variable (ssRise gain dt : Word)

theorem softStart_of_disabled : softStart ssRise gain false dt = 0 := rfl

theorem softStart_of_no_rise (h : ssRise.toInt ≤ 0) : softStart ssRise gain true dt = ONE := if_pos h

theorem softStart_of_rise (h : 0 < ssRise.toInt) :
    softStart ssRise gain true dt = clamp (addSat gain (div dt ssRise)) 0 ONE := if_neg h.not_ge

/-- `softStart` is the gain of R156, by the enable and the sign of the rise time. -/
theorem softStart_isSoftStart (enable : Bool) :
    Rule.IsSoftStart ssRise gain (enable = true) dt (softStart ssRise gain enable dt) := by
  refine ⟨fun hoff => ?disabled, fun hon hrise => ?noRise, fun hon hrise => ⟨div dt ssRise, div_isQuotient _ _, ?rise⟩⟩
  case disabled =>
    rw [eq_false_of_ne_true hoff, softStart_of_disabled]
    rfl
  case noRise =>
    rw [hon, softStart_of_no_rise ssRise gain dt hrise]
    rfl
  case rise =>
    rw [hon, softStart_of_rise ssRise gain dt hrise, clamp_toInt _ _ _ (by decide), addSat_toInt]
    rfl

end

/-! ### The frame of a write to a regulator's record -/

/-- A write to a general register adds that register to what may have changed. -/
theorem SameBut.setX {changed : List Reg} {s t : State} (h : SameBut changed s t) (n : RegIdx) (v : Word) :
    SameBut (.x n :: changed) s (t.setX n v) := by
  obtain ⟨hget, hcfg, hport, hrd⟩ := h
  refine ⟨fun r hr => ?_, hcfg, hport, hrd⟩
  rw [State.get_setX, if_neg (List.ne_of_not_mem_cons hr)]
  exact hget r (List.not_mem_of_not_mem_cons hr)

theorem State.sameBut_pid0 (s : State) (p : PidRegs) : SameBut [.pid0Integ, .pid0Prev] s { s with pid0 := p } := by
  refine ⟨fun r hr => ?_, rfl, rfl, rfl⟩
  cases r
  case pid0Integ | pid0Prev => simp at hr
  all_goals rfl

theorem State.sameBut_pid1 (s : State) (p : PidRegs) : SameBut [.pid1Integ, .pid1Prev] s { s with pid1 := p } := by
  refine ⟨fun r hr => ?_, rfl, rfl, rfl⟩
  cases r
  case pid1Integ | pid1Prev => simp at hr
  all_goals rfl

theorem State.sameBut_pid2 (s : State) (p : PidRegs) : SameBut [.pid2Integ, .pid2Prev] s { s with pid2 := p } := by
  refine ⟨fun r hr => ?_, rfl, rfl, rfl⟩
  cases r
  case pid2Integ | pid2Prev => simp at hr
  all_goals rfl

theorem State.sameBut_ssGain (s : State) (g : Word) : SameBut [.ssGain] s { s with ssGain := g } := by
  refine ⟨fun r hr => ?_, rfl, rfl, rfl⟩
  cases r
  case ssGain => simp at hr
  all_goals rfl

/-! ### The answer of each command -/

theorem exec_pid0 (rd rs1 rs2 rs3 : RegIdx) (s : State) :
    exec (.pid0 rd rs1 rs2 rs3) s =
      .next ({ s with pid0 := (pid s.cfg.pid0 s.pid0 (s.getX rs1) (s.getX rs2) (s.getX rs3)).2 }.setX rd
        (pid s.cfg.pid0 s.pid0 (s.getX rs1) (s.getX rs2) (s.getX rs3)).1) := rfl

theorem exec_pid1 (rd rs1 rs2 rs3 : RegIdx) (s : State) :
    exec (.pid1 rd rs1 rs2 rs3) s =
      .next ({ s with pid1 := (pid s.cfg.pid1 s.pid1 (s.getX rs1) (s.getX rs2) (s.getX rs3)).2 }.setX rd
        (pid s.cfg.pid1 s.pid1 (s.getX rs1) (s.getX rs2) (s.getX rs3)).1) := rfl

theorem exec_pid2 (rd rs1 rs2 rs3 : RegIdx) (s : State) :
    exec (.pid2 rd rs1 rs2 rs3) s =
      .next ({ s with pid2 := (pid s.cfg.pid2 s.pid2 (s.getX rs1) (s.getX rs2) (s.getX rs3)).2 }.setX rd
        (pid s.cfg.pid2 s.pid2 (s.getX rs1) (s.getX rs2) (s.getX rs3)).1) := rfl

theorem exec_slewd (rd rs1 rs2 rs3 : RegIdx) (s : State) :
    exec (.slewd rd rs1 rs2 rs3) s =
      .next (s.setX rd (slew s.cfg.slew0 (s.getX rs1) (s.getX rs2) (s.getX rs3))) := rfl

theorem exec_slewq (rd rs1 rs2 rs3 : RegIdx) (s : State) :
    exec (.slewq rd rs1 rs2 rs3) s =
      .next (s.setX rd (slew s.cfg.slew1 (s.getX rs1) (s.getX rs2) (s.getX rs3))) := rfl

theorem exec_sstep (rd rs1 rs2 : RegIdx) (s : State) :
    exec (.sstep rd rs1 rs2) s =
      .next ({ s with ssGain := softStart s.cfg.ssRise s.ssGain (truthOf (s.getX rs1)) (s.getX rs2) }.setX rd
        (softStart s.cfg.ssRise s.ssGain (truthOf (s.getX rs1)) (s.getX rs2))) := rfl

/-! ### The statements -/

/-- Settles O30: each command writes `pid` of its own axis, first to that axis's record, then to rd. -/
theorem pidSteps : Obligations.PidSteps := by
  intro s rd rs1 rs2 rs3
  refine ⟨⟨⟨rfl, rfl⟩, _, exec_pid0 rd rs1 rs2 rs3 s, ?_, (s.sameBut_pid0 _).setX _ _⟩,
    ⟨⟨rfl, rfl⟩, _, exec_pid1 rd rs1 rs2 rs3 s, ?_, (s.sameBut_pid1 _).setX _ _⟩,
    ⟨rfl, rfl⟩, _, exec_pid2 rd rs1 rs2 rs3 s, ?_, (s.sameBut_pid2 _).setX _ _⟩
  all_goals
    rw [State.getX_setX_self]
    exact pid_isPid _ _ _ _ _

/-- Settles O33: both commands write `slew` to rd and nothing else, with the rates of their own axis. -/
theorem slewSteps : Obligations.SlewSteps := by
  intro s rd rs1 rs2 rs3
  refine ⟨⟨⟨rfl, rfl⟩, _, exec_slewd rd rs1 rs2 rs3 s, ?_, s.sameBut_setX _ _⟩,
    ⟨rfl, rfl⟩, _, exec_slewq rd rs1 rs2 rs3 s, ?_, s.sameBut_setX _ _⟩
  all_goals
    rw [State.getX_setX_self]
    exact slew_isSlew _ _ _ _

/-- Settles O35: one gain goes to SS_GAIN, then to rd; a word is true exactly when it is not 0 (R86). -/
theorem softStartSteps : Obligations.SoftStartSteps := by
  intro s rd rs1 rs2
  refine ⟨⟨rfl, rfl⟩, _, exec_sstep rd rs1 rs2 s, ?_, State.getX_setX_self _ _ _, (s.sameBut_ssGain _).setX _ _⟩
  rw [← truthOf_eq_true_iff]
  exact softStart_isSoftStart _ _ _ _

end Sys2Proof.Machine
end

section
/-! The back-EMF observer (44_pll_observer.md): each stage of `pllStep` as the relation its rule states, the frame of a
write to the observer's record, and the statement about PLLSTEP. -/

namespace Sys2Proof.Machine

/-! ### The stages of the observer step as relations -/

/-- The derivative of a current over the sample time, then its low-pass (R170, steps 1 and 2). -/
theorem pllFilter_isFiltered (c : Config) (prev i old : Word) :
    Rule.PllFiltered c prev i old (pllFilter c old (div (subSat i prev) c.ts)) :=
  ⟨_, _, _, _, _, subSat_isDiff _ _, div_isQuotient _ _, subSat_toInt ONE c.pllAlpha, mul_isProduct _ _,
    mul_isProduct _ _, addSat_isSum _ _⟩

theorem pllEmf_isBackEmf (c : Config) (v i di : Word) : Rule.PllBackEmf c v i di (pllEmf c v i di) :=
  ⟨_, _, _, mul_isProduct _ _, mul_isProduct _ _, addSat_isSum _ _, subSat_isDiff _ _⟩

/-- No order of the bounds is assumed: the upper one is tested first (R13). -/
theorem clamp_isClamped (u lo hi : Word) : Rule.IsClamped u lo hi (clamp u lo hi) :=
  ⟨fun habove => if_pos habove, fun hmax hbelow => (if_neg hmax.not_gt).trans (if_pos hbelow),
    fun hmax hmin => (if_neg hmax.not_gt).trans (if_neg hmin.not_gt)⟩

/-- The speed after its upper bound, before the lower one (R170, step 6). -/
def pllSpeedBelowMax (c : Config) (u : Word) : Word := if u.toInt > c.pllWMax.toInt then c.pllWMax else u

theorem pllSpeedClamp_eq (c : Config) (u : Word) :
    pllSpeedClamp c u =
      if c.pllLowerClamp && decide ((pllSpeedBelowMax c u).toInt < c.pllWMin.toInt) then c.pllWMin
      else pllSpeedBelowMax c u := rfl

theorem pllSpeedClamp_of_low (c : Config) (u : Word) (hclamp : c.pllLowerClamp = true)
    (hlow : (pllSpeedBelowMax c u).toInt < c.pllWMin.toInt) : pllSpeedClamp c u = c.pllWMin := by
  rw [pllSpeedClamp_eq, if_pos (by simp [hclamp, hlow])]

theorem pllSpeedClamp_of_kept (c : Config) (u : Word)
    (hkept : c.pllLowerClamp = false ∨ c.pllWMin.toInt ≤ (pllSpeedBelowMax c u).toInt) :
    pllSpeedClamp c u = pllSpeedBelowMax c u := by
  rw [pllSpeedClamp_eq]
  rcases hkept with hoff | hmin
  · rw [if_neg (by simp [hoff])]
  · rw [if_neg (by simp [hmin.not_gt])]

theorem pllSpeedClamp_isBounded (c : Config) (u : Word) : Rule.PllSpeedBounded c u (pllSpeedClamp c u) :=
  ⟨pllSpeedBelowMax c u, fun habove => if_pos habove, fun hmax => if_neg hmax.not_gt,
    pllSpeedClamp_of_low c u, pllSpeedClamp_of_kept c u⟩

/-! ### The observer step -/

/-- The step leaves the angle to its caller to advance (R173). -/
@[simp] theorem pllStep_theta (c : Config) (p : PllRegs) (va vb ia ib : Word) :
    (pllStep c p va vb ia ib).theta = p.theta := rfl

/-- `pllStep` is the step of R170, stage by stage: the filtered derivatives, the back-EMF of both axes, the phase error
over one sine/cosine pair, the integrator, the speed, and the squared magnitude. -/
theorem pllStep_isPllStep (c : Config) (p : PllRegs) (va vb ia ib : Word) :
    Rule.IsPllStep c p va vb ia ib (pllStep c p va vb ia ib) := by
  refine ⟨pllStep_theta c p va vb ia ib, rfl, rfl, pllFilter_isFiltered _ _ _ _, pllFilter_isFiltered _ _ _ _,
    pllEmf_isBackEmf _ _ _ _, pllEmf_isBackEmf _ _ _ _, ?err, ?integ, ?omega, ?emag2⟩
  case err =>
    exact ⟨_, _, _, _, _, sincos_isSincos c p.theta, negSat_isNeg _, mul_isProduct _ _, mul_isProduct _ _,
      addSat_isSum _ _⟩
  case integ => exact ⟨_, _, mul_isProduct _ _, addSat_isSum _ _, clamp_isClamped _ _ _⟩
  case omega =>
    exact ⟨_, _, _, mul_isProduct _ _, addSat_isSum _ _, addSat_isSum _ _, pllSpeedClamp_isBounded _ _⟩
  case emag2 => exact ⟨_, _, mul_isProduct _ _, mul_isProduct _ _, addSat_isSum _ _⟩

/-! ### The frame of a write to the observer's record -/

/-- Two updates in a row change at most what either of them may change. -/
theorem SameBut.trans {early late : List Reg} {s t u : State} (h : SameBut early s t) (h' : SameBut late t u) :
    SameBut (late ++ early) s u := by
  obtain ⟨hget, hcfg, hport, hrd⟩ := h
  obtain ⟨hget', hcfg', hport', hrd'⟩ := h'
  refine ⟨fun r hr => ?_, hcfg'.trans hcfg, hport'.trans hport, hrd'.trans hrd⟩
  obtain ⟨hlate, hearly⟩ : r ∉ late ∧ r ∉ early := by simpa using hr
  exact (hget' r hlate).trans (hget r hearly)

theorem State.sameBut_pll (s : State) (p : PllRegs) (htheta : p.theta = s.pll.theta) :
    SameBut pllStepRegs s { s with pll := p } := by
  refine ⟨fun r hr => ?_, rfl, rfl, rfl⟩
  cases r
  case pllTheta => exact htheta
  case pllOmega | pllInteg | pllIaPrev | pllIbPrev | pllDiaF | pllDibF | pllEa | pllEb | pllEmag2 | pllErr =>
    simp [pllStepRegs] at hr
  all_goals rfl

/-! ### The statement -/

theorem exec_pllstep (rd rd2 rs1 rs2 rs3 rs4 : RegIdx) (s : State) (p : PllRegs)
    (hp : pllStep s.cfg s.pll (s.getX rs1) (s.getX rs2) (s.getX rs3) (s.getX rs4) = p) :
    exec (.pllstep rd rd2 rs1 rs2 rs3 rs4) s = .next ({ s with pll := p }.setX2 rd rd2 p.omega p.emag2) := by
  rw [← hp]
  rfl

/-- Settles O36: PLLSTEP writes `pllStep` of its operands to the observer's record, whose angle that step keeps, then
the speed to rd and the squared back-EMF magnitude to rd2. -/
theorem pllstepSteps : Obligations.PllstepSteps := by
  intro s rd rd2 rs1 rs2 rs3 rs4
  exact ⟨⟨rfl, rfl⟩, _, exec_pllstep rd rd2 rs1 rs2 rs3 rs4 s _ rfl, pllStep_isPllStep _ _ _ _ _ _,
    State.getX_setX2_second _ _ _ _ _, State.getX_setX2_first _ _ _ _ _,
    (s.sameBut_pll _ (pllStep_theta _ _ _ _ _ _)).trans (State.sameBut_setX2 _ _ _ _ _)⟩

end Sys2Proof.Machine
end

section
/-! The current loop and the space-vector calculator (45_foc_svpwm.md): `focStep` and each stage of `svpwm` as the
relations their rules state, the frames of the two writes, and the statements about FOCSTEP and SVPWM. -/

namespace Sys2Proof.Machine

/-! ### The current-loop step -/

/-- The current loop always runs its soft start enabled (R180). -/
theorem softStart_isSoftStart_enabled (ssRise gain dt : Word) :
    Rule.IsSoftStart ssRise gain True dt (softStart ssRise gain true dt) := by
  simpa only using softStart_isSoftStart ssRise gain dt true

/-- `focStep` is the step of R180, stage by stage, over one sine/cosine pair. With the step written out on both sides
each stage is the rule of the function it calls. -/
theorem focStep_isFocStep (s : State) (ia ib theta : Word) :
    Rule.IsFocStep s ia ib theta (focStep s ia ib theta) := by
  simp only [Rule.IsFocStep, focStep]
  exact ⟨_, _, _, _, sincos_isSincos s.cfg theta, clarke_isClarke ia ib, parkSc_isPark _ _ _ _,
    pid_isPid _ _ _ _ _, pid_isPid _ _ _ _ _, slew_isSlew _ _ _ _, slew_isSlew _ _ _ _,
    softStart_isSoftStart_enabled _ _ _, trivial, mul_isProduct _ _, iparkSc_isIpark _ _ _ _, trivial⟩

/-- The step's relation speaks of no general register, so a command may still write its result there. -/
theorem isFocStep_setX2 {s t : State} {ia ib theta : Word} (h : Rule.IsFocStep s ia ib theta t)
    (rd rd2 : RegIdx) (v v2 : Word) : Rule.IsFocStep s ia ib theta (t.setX2 rd rd2 v v2) := h

theorem State.sameBut_focStep (s : State) (ia ib theta : Word) :
    SameBut focStepRegs s (focStep s ia ib theta) := by
  refine ⟨fun r hr => ?_, rfl, rfl, rfl⟩
  cases r
  case focIalpha | focIbeta | focId | focIq | focVd | focVq | focValpha | focVbeta | focTheta | slewVd | slewVq |
      ssGain | pid0Integ | pid0Prev | pid1Integ | pid1Prev => simp [focStepRegs, focRegs] at hr
  all_goals rfl

/-! ### Sector and duties -/

theorem sectorOfCode_eq_table : ∀ code < 8, some (sectorOfCode code).toNat = Rule.sectorTable[code]? := by decide

/-- The three sign bits make a code below 8, where the lookup is the table of R186. -/
theorem sector_isSector (va vb vc : Word) : Rule.IsSector va vb vc (sector va vb vc) :=
  ⟨_, rfl, sectorOfCode_eq_table _ (by split <;> split <;> split <;> omega)⟩

@[simp] theorem minW_toInt (a b : Word) : (minW a b).toInt = min a.toInt b.toInt := by
  unfold minW
  split <;> omega

@[simp] theorem ONE_toInt : ONE.toInt = 65536 := rfl

/-- The smallest of the three phase values, which the duties shift by (R187). -/
def phaseMin (va vb vc : Word) : Word := minW (minW va vb) vc

/-- The largest of the three shifted phase values (R187). -/
def phaseSpan (va vb vc : Word) : Word :=
  maxW (maxW (subSat va (phaseMin va vb vc)) (subSat vb (phaseMin va vb vc))) (subSat vc (phaseMin va vb vc))

/-- Half of what the span leaves of the carrier period (R187). -/
def dutyOffset (span : Word) : Word := asrWord (subSat ONE (if span.toInt > ONE.toInt then ONE else span)) 1

theorem duties_eq (va vb vc : Word) :
    duties va vb vc =
      (duty va (phaseMin va vb vc) (dutyOffset (phaseSpan va vb vc)),
        duty vb (phaseMin va vb vc) (dutyOffset (phaseSpan va vb vc)),
        duty vc (phaseMin va vb vc) (dutyOffset (phaseSpan va vb vc))) := rfl

@[simp] theorem phaseMin_toInt (va vb vc : Word) :
    (phaseMin va vb vc).toInt = min (min va.toInt vb.toInt) vc.toInt := by
  rw [phaseMin, minW_toInt, minW_toInt]

@[simp] theorem phaseSpan_toInt (va vb vc : Word) :
    (phaseSpan va vb vc).toInt =
      max (max (saturated (va.toInt - (phaseMin va vb vc).toInt)) (saturated (vb.toInt - (phaseMin va vb vc).toInt)))
        (saturated (vc.toInt - (phaseMin va vb vc).toInt)) := by
  simp only [phaseSpan, maxW_toInt, subSat_toInt]

/-- No phase is below the smallest one. -/
theorem phaseSpan_nonneg (va vb vc : Word) : 0 ≤ (phaseSpan va vb vc).toInt := by
  rw [phaseSpan_toInt, phaseMin_toInt]
  unfold saturated
  omega

/-- A span that is not negative keeps the difference to ONE away from saturation. -/
theorem dutyOffset_toInt (span : Word) (h : 0 ≤ span.toInt) :
    (dutyOffset span).toInt = (65536 - min 65536 span.toInt) / 2 := by
  have hcapped : (if span.toInt > ONE.toInt then ONE else span).toInt = min 65536 span.toInt := by
    rw [ONE_toInt]
    split
    · rw [ONE_toInt]; omega
    · omega
  rw [dutyOffset, asrWord_one_toInt, subSat_toInt, hcapped, ONE_toInt, saturated_of_mem _ (by omega) (by omega)]

theorem duty_toInt (v m off : Word) :
    (duty v m off).toInt = max 0 (min 65536 (saturated (saturated (v.toInt - m.toInt) + off.toInt))) := by
  rw [duty, clamp_toInt _ _ _ (by decide), addSat_toInt, subSat_toInt, ONE_toInt]
  rfl

theorem duty_inUnit (v m off : Word) : inUnit (duty v m off) := clamp_mem _ 0 ONE (by decide)

theorem duties_isDuties (va vb vc : Word) :
    Rule.IsDuties va vb vc (duties va vb vc).1 (duties va vb vc).2.1 (duties va vb vc).2.2 := by
  rw [duties_eq]
  refine ⟨(phaseMin va vb vc).toInt, min 65536 (phaseSpan va vb vc).toInt,
    (dutyOffset (phaseSpan va vb vc)).toInt, phaseMin_toInt va vb vc, ?_,
    dutyOffset_toInt _ (phaseSpan_nonneg va vb vc), duty_toInt _ _ _, duty_toInt _ _ _, duty_toInt _ _ _⟩
  rw [phaseSpan_toInt]

theorem duties_inUnit (va vb vc : Word) :
    inUnit (duties va vb vc).1 ∧ inUnit (duties va vb vc).2.1 ∧ inUnit (duties va vb vc).2.2 :=
  ⟨duty_inUnit _ _ _, duty_inUnit _ _ _, duty_inUnit _ _ _⟩

/-! ### Vector times, compare values and sample marker -/

/-- Three integers in order, by inserting the third into the ordered first two: the ends are `min3` and `max3`. -/
theorem exists_sorted_perm (a b c : Int) :
    ∃ lo mid hi, lo ≤ mid ∧ mid ≤ hi ∧ [lo, mid, hi].Perm [a, b, c] ∧ lo = min3 a b c ∧ hi = max3 a b c ∧
      lo + mid + hi = a + b + c := by
  unfold min3 max3
  wlog hab : a ≤ b generalizing a b with hswap
  · obtain ⟨lo, mid, hi, hlo, hhi, hperm, hmin, hmax, hsum⟩ := hswap b a (by omega)
    exact ⟨lo, mid, hi, hlo, hhi, hperm.trans (.swap a b [c]), by omega, by omega, by omega⟩
  rcases le_total c a with hca | hac
  · exact ⟨c, a, b, hca, hab, List.perm_append_comm (l₁ := [c]) (l₂ := [a, b]), by omega, by omega, by omega⟩
  · rcases le_total c b with hcb | hbc
    · exact ⟨a, c, b, hac, hcb, (List.Perm.swap b c []).cons a, by omega, by omega, by omega⟩
    · exact ⟨a, b, c, hab, hbc, .refl _, by omega, by omega, by omega⟩

/-- The vector times are the gaps between the ordered duties and the remainder of ONE (R188). -/
theorem vectorTimes_sorted (a b c : Int) :
    ∃ lo mid hi, lo ≤ mid ∧ mid ≤ hi ∧ [lo, mid, hi].Perm [a, b, c] ∧
      vectorTimes a b c = (65536 - (hi - mid) - (mid - lo), hi - mid, mid - lo) := by
  obtain ⟨lo, mid, hi, hlo, hhi, hperm, hmin, hmax, hsum⟩ := exists_sorted_perm a b c
  refine ⟨lo, mid, hi, hlo, hhi, hperm, ?_⟩
  have hmid : a + b + c - lo - hi = mid := by omega
  simp only [vectorTimes, ← hmin, ← hmax, hmid]

/-- Times of duties in [0, ONE] lie in [0, ONE], so their words hold them exactly. -/
theorem vectorTimes_words (da db dc : Word) (ha : inUnit da) (hb : inUnit db) (hc : inUnit dc) (t0 t1 t2 : Int)
    (ht : vectorTimes da.toInt db.toInt dc.toInt = (t0, t1, t2)) :
    (BitVec.ofInt 32 t0).toInt = t0 ∧ (BitVec.ofInt 32 t1).toInt = t1 ∧ (BitVec.ofInt 32 t2).toInt = t2 := by
  obtain ⟨lo, mid, hi, hlo, hhi, hperm, htimes⟩ := vectorTimes_sorted da.toInt db.toInt dc.toInt
  have hunit : ∀ d ∈ [lo, mid, hi], 0 ≤ d ∧ d ≤ 65536 := fun d hd => by
    obtain rfl | rfl | rfl : d = da.toInt ∨ d = db.toInt ∨ d = dc.toInt := by simpa using hperm.mem_iff.mp hd
    exacts [ha, hb, hc]
  obtain ⟨hlo0, -⟩ := hunit lo (by simp)
  obtain ⟨-, hhi1⟩ := hunit hi (by simp)
  obtain ⟨rfl, rfl, rfl⟩ : t0 = 65536 - (hi - mid) - (mid - lo) ∧ t1 = hi - mid ∧ t2 = mid - lo := by
    simpa using ht.symm.trans htimes
  refine ⟨?_, ?_, ?_⟩ <;> exact toInt_ofInt_of_mem _ (by omega) (by omega)

theorem mulInt_isScaled (c : Config) (f : Int) : Rule.IsScaled c f (mulInt f c.pwmMax.toInt) :=
  ⟨rdiv (f * c.pwmMax.toInt) 65536, rdiv_roundsTo _ _ (by decide), sat32_toInt _⟩

theorem markerFraction_of_ge (t0 t1 t2 : Int) (h : t2 ≤ t1) : markerFraction t0 t1 t2 = (t0 + t1) / 2 := if_pos h

theorem markerFraction_of_lt (t0 t1 t2 : Int) (h : t1 < t2) : markerFraction t0 t1 t2 = t0 / 2 + t1 + t2 / 2 :=
  if_neg h.not_ge

/-! ### The output registers -/

/-- `svpwm` is the calculation of R185 to R190, register by register; the times and the marker are read back from the
words that hold them. -/
theorem svpwm_isSvpwm (c : Config) (al be : Word) : Rule.IsSvpwm c al be (svpwm c al be) := by
  simp only [Rule.IsSvpwm, svpwm]
  refine ⟨_, _, _, iclarke_isIclarke al be, sector_isSector _ _ _, duties_isDuties _ _ _, ?_⟩
  generalize iclarke al be = v
  obtain ⟨hda, hdb, hdc⟩ := duties_inUnit v.1 v.2.1 v.2.2
  generalize duties v.1 v.2.1 v.2.2 = d at hda hdb hdc ⊢
  obtain ⟨lo, mid, hi, hlo, hhi, hperm, htimes⟩ := vectorTimes_sorted d.1.toInt d.2.1.toInt d.2.2.toInt
  obtain ⟨ht0, ht1, ht2⟩ := vectorTimes_words _ _ _ hda hdb hdc _ _ _ htimes
  simp only [htimes, ht0, ht1, ht2]
  refine ⟨⟨lo, mid, hi, hlo, hhi, hperm, rfl, rfl, rfl⟩, mulInt_isScaled _ _, mulInt_isScaled _ _,
    mulInt_isScaled _ _, fun hge => ?markerGe, fun hlt => ?markerLt⟩
  case markerGe =>
    rw [markerFraction_of_ge _ _ _ hge]
    exact mulInt_isScaled _ _
  case markerLt =>
    rw [markerFraction_of_lt _ _ _ hlt]
    exact mulInt_isScaled _ _

theorem State.sameBut_out (s : State) (o : OutRegs) : SameBut outRegs s { s with out := o } := by
  refine ⟨fun r hr => ?_, rfl, rfl, rfl⟩
  cases r
  case outCmpA | outCmpB | outCmpC | outMarker | svmSector | svmT0 | svmT1 | svmT2 | svmDa | svmDb | svmDc =>
    simp [outRegs] at hr
  all_goals rfl

/-! ### The statements -/

theorem exec_focstep (rd rd2 rs1 rs2 rs3 : RegIdx) (s t : State)
    (ht : focStep s (s.getX rs1) (s.getX rs2) (s.getX rs3) = t) :
    exec (.focstep rd rd2 rs1 rs2 rs3) s = .next (t.setX2 rd rd2 t.foc.valpha t.foc.vbeta) := by
  rw [← ht]
  rfl

theorem exec_svpwm (rs1 rs2 : RegIdx) (s : State) :
    exec (.svpwm rs1 rs2) s = .next { s with out := svpwm s.cfg (s.getX rs1) (s.getX rs2) } := rfl

/-- Settles O38: FOCSTEP runs `focStep` on its operands, then writes v alpha to rd and v beta to rd2. -/
theorem focstepSteps : Obligations.FocstepSteps := by
  intro s rd rd2 rs1 rs2 rs3
  exact ⟨⟨rfl, rfl⟩, _, exec_focstep rd rd2 rs1 rs2 rs3 s _ rfl,
    isFocStep_setX2 (focStep_isFocStep _ _ _ _) _ _ _ _, State.getX_setX2_second _ _ _ _ _,
    State.getX_setX2_first _ _ _ _ _,
    (s.sameBut_focStep _ _ _).trans (State.sameBut_setX2 _ _ _ _ _)⟩

/-- Settles O39: SVPWM reads its two operands and the parameters alone, and replaces the output record. -/
theorem svpwmWritesOutputs : Obligations.SvpwmWritesOutputs := by
  intro s rs1 rs2
  exact ⟨⟨rfl, rfl⟩, _, exec_svpwm rs1 rs2 s, svpwm_isSvpwm _ _ _, s.sameBut_out _⟩

end Sys2Proof.Machine
end

section
/-! Re-initialisation and the ticks that end early (46_startup_tick.md): the frames of the updates they are made of, the
branches of `tick`, and the statements about REINIT, STINIT and a TICK that trips or finds STOP or FAIL. -/

namespace Sys2Proof.Machine

/-! ### Frames -/

/-- A frame may list more registers than the update changes. -/
theorem SameBut.mono {few many : List Reg} {s t : State} (h : SameBut few s t) (hsub : few ⊆ many) :
    SameBut many s t := by
  obtain ⟨hget, hcfg, hport, hrd⟩ := h
  exact ⟨fun r hr => hget r fun hfew => hr (hsub hfew), hcfg, hport, hrd⟩

theorem SameBut.get_eq {changed : List Reg} {s t : State} (h : SameBut changed s t) {r : Reg} (hr : r ∉ changed) :
    t.get r = s.get r :=
  h.1 r hr

/-- Any number of conditions raised or cleared in a row is one write to STATUS. -/
theorem State.sameBut_status (s : State) (v : Word) : SameBut [.status] s { s with status := v } := by
  refine ⟨fun r hr => ?_, rfl, rfl, rfl⟩
  cases r
  case status => simp at hr
  all_goals rfl

theorem State.sameBut_refs (s : State) (d q : Word) :
    SameBut [.idRef, .iqRef] s { s with idRef := d, iqRef := q } := by
  refine ⟨fun r hr => ?_, rfl, rfl, rfl⟩
  cases r
  case idRef | iqRef => simp at hr
  all_goals rfl

theorem State.sameBut_reinit (s : State) : SameBut reinitRegs s s.reinit :=
  ⟨fun r hr => (s.get_reinit r).trans (if_neg hr), s.cfg_reinit, s.port_reinit, s.rdData_reinit⟩

theorem State.get_reinit_of_mem (s : State) {r : Reg} (hr : r ∈ reinitRegs) : s.reinit.get r = 0 :=
  (s.get_reinit r).trans (if_pos hr)

theorem State.get_zeroOutputs_of_mem (s : State) {r : Reg} (hr : r ∈ outRegs) : s.zeroOutputs.get r = 0 :=
  (s.get_zeroOutputs r).trans (if_pos hr)

theorem reinitRegs_apart_from_status : ∀ r ∈ reinitRegs, r ∉ [Reg.status] := by decide

/-! ### OC and SAFE_STOP together -/

theorem setBit_oc_safeStop (status : Word) : setBit (setBit status .oc) .safeStop = status ||| 3#32 :=
  BitVec.or_assoc status 1#32 2#32

theorem clearBit_oc_safeStop (status : Word) : clearBit (clearBit status .oc) .safeStop = status &&& 0xFFFFFFFC#32 :=
  BitVec.and_assoc status (~~~1#32) (~~~2#32)

/-! ### The over-current trip -/

/-- The entry to the over-current fault is a re-initialisation and one write to STATUS. -/
theorem State.overCurrentEntry_eq (s : State) :
    s.overCurrentEntry = { s.reinit with status := s.status ||| 3#32 } := by
  rw [← setBit_oc_safeStop]
  rfl

theorem State.sameBut_overCurrentEntry (s : State) : SameBut (.status :: reinitRegs) s s.overCurrentEntry :=
  s.sameBut_reinit.trans (s.reinit.sameBut_status _)

theorem State.get_overCurrentEntry_of_mem (s : State) {r : Reg} (hr : r ∈ reinitRegs) :
    s.overCurrentEntry.get r = 0 := by
  have hstatus : r ∉ [Reg.status] := reinitRegs_apart_from_status r hr
  rw [s.overCurrentEntry_eq, (s.reinit.sameBut_status _).get_eq hstatus, s.get_reinit_of_mem hr]

/-- The saturated magnitude compared with the limit is the magnitude held to MAX (R12, R211). -/
theorem overCurrent_iff (s : State) : overCurrent s.cfg s.inp = true ↔ s.PhaseOverCurrent := by
  simp only [overCurrent, State.PhaseOverCurrent, exceedsLimit, absSat_toInt, Bool.or_eq_true, decide_eq_true_eq,
    gt_iff_lt, or_assoc]

/-! ### The entry to ALIGN -/

/-- The state between the re-initialisation of STINIT and its write to STATUS (R201). -/
def State.alignEntry (s : State) : State :=
  { s.reinit with st := { s.reinit.st with state := .align }, idRef := s.cfg.stAlignId }

theorem State.sameBut_alignEntry (s : State) : SameBut [.stState, .idRef] s.reinit s.alignEntry := by
  refine ⟨fun r hr => ?_, rfl, rfl, rfl⟩
  cases r
  case stState | idRef => simp at hr
  all_goals rfl

theorem State.stinit_eq (s : State) : s.stinit = { s.alignEntry with status := s.status &&& 0xFFFFFFFC#32 } := by
  rw [← clearBit_oc_safeStop]
  rfl

/-- The two registers STINIT presets are among those it has re-initialised. -/
theorem State.sameBut_stinit (s : State) : SameBut (.status :: reinitRegs) s s.stinit := by
  have hpreset : [Reg.stState, .idRef] ⊆ reinitRegs := by decide
  have halign : SameBut reinitRegs s s.alignEntry :=
    (s.sameBut_reinit.trans s.sameBut_alignEntry).mono (List.append_subset.mpr ⟨hpreset, List.Subset.refl _⟩)
  exact halign.trans (s.alignEntry.sameBut_status _)

theorem State.get_stinit_of_mem (s : State) {r : Reg} (hr : r ∈ reinitRegs) (hstate : r ≠ .stState)
    (href : r ≠ .idRef) : s.stinit.get r = 0 := by
  have hstatus : r ∉ [Reg.status] := reinitRegs_apart_from_status r hr
  have hpreset : r ∉ [Reg.stState, .idRef] := by simp [hstate, href]
  rw [s.stinit_eq, (s.alignEntry.sameBut_status _).get_eq hstatus, s.sameBut_alignEntry.get_eq hpreset,
    s.get_reinit_of_mem hr]

/-! ### The early branches of a tick -/

theorem StState.code_eq_zero_iff (st : StState) : st.code = 0 ↔ st = .stop := by
  cases st <;> decide

theorem StState.code_eq_five_iff (st : StState) : st.code = 5 ↔ st = .fail := by
  cases st <;> decide

theorem tick_of_phaseOverCurrent (s : State) (h : s.PhaseOverCurrent) : tick s = s.overCurrentEntry :=
  if_pos ((overCurrent_iff s).mpr h)

theorem tick_of_stop (s : State) (hoc : ¬s.PhaseOverCurrent) (hst : s.st.state = .stop) :
    tick s = s.zeroOutputs := by
  rw [tick, if_neg (mt (overCurrent_iff s).mp hoc), hst]

/-- In FAIL the references and the outputs, which are apart, are zeroed before the one write to STATUS. -/
theorem tick_of_fail (s : State) (hoc : ¬s.PhaseOverCurrent) (hst : s.st.state = .fail) :
    tick s = ({ s.zeroOutputs with idRef := 0, iqRef := 0 } : State).raise .safeStop := by
  rw [tick, if_neg (mt (overCurrent_iff s).mp hoc), hst]
  rfl

/-! ### The answer of each command -/

theorem exec_reinit (s : State) : exec .reinit s = .next s.reinit := rfl

theorem exec_stinit (s : State) : exec .stinit s = .next s.stinit := rfl

theorem exec_tick (s : State) : exec .tick s = .next (tick s) := rfl

/-! ### The statements -/

/-- Settles O42: REINIT is `reinit`. -/
theorem reinitZeroesController : Obligations.ReinitZeroesController := by
  intro s
  exact ⟨⟨rfl, rfl⟩, _, exec_reinit s, fun _ hr => s.get_reinit_of_mem hr, s.sameBut_reinit⟩

/-- Settles O43: STINIT re-initialises, then presets two of the zeroed registers and clears two bits of STATUS. -/
theorem stinitEntersAlign : Obligations.StinitEntersAlign := by
  intro s
  have hstatus : s.stinit.get .status = s.get .status &&& 0xFFFFFFFC#32 := by
    rw [s.stinit_eq]
    rfl
  exact ⟨⟨rfl, rfl⟩, _, exec_stinit s, rfl, rfl, fun _ hr hstate href => s.get_stinit_of_mem hr hstate href, hstatus,
    s.sameBut_stinit⟩

/-- Settles O45: the test of the tick is the over-current condition, and its branch is the entry to the fault. -/
theorem tickTripsOnOverCurrent : Obligations.TickTripsOnOverCurrent := by
  intro s hoc
  have hstatus : s.overCurrentEntry.get .status = s.get .status ||| 3#32 := by
    rw [s.overCurrentEntry_eq]
    rfl
  refine ⟨s.overCurrentEntry, ?_, fun _ hr => s.get_overCurrentEntry_of_mem hr, hstatus, s.sameBut_overCurrentEntry⟩
  rw [exec_tick, tick_of_phaseOverCurrent s hoc]

/-- Settles O46, by the two branches of the tick; in FAIL the references are zeroed apart from the outputs. -/
theorem tickInStopAndFail : Obligations.TickInStopAndFail := by
  intro s hoc
  refine ⟨fun hcode => ?stop, fun hcode => ?fail⟩
  case stop =>
    have hst : s.st.state = .stop := (StState.code_eq_zero_iff _).mp hcode
    refine ⟨s.zeroOutputs, ?_, fun _ hr => s.get_zeroOutputs_of_mem hr, s.sameBut_out _⟩
    rw [exec_tick, tick_of_stop s hoc hst]
  case fail =>
    have hst : s.st.state = .fail := (StState.code_eq_five_iff _).mp hcode
    have hrefs := s.zeroOutputs.sameBut_refs 0 0
    have hraise := State.sameBut_status { s.zeroOutputs with idRef := 0, iqRef := 0 } (setBit s.status .safeStop)
    refine ⟨_, (exec_tick s).trans (congrArg _ (tick_of_fail s hoc hst)), fun r hr => ?zeroed, rfl,
      ((s.sameBut_out _).trans hrefs).trans hraise⟩
    case zeroed =>
      obtain rfl | rfl | hout : r = .idRef ∨ r = .iqRef ∨ r ∈ outRegs := by simpa using hr
      · rfl
      · rfl
      · have hapart : ∀ q ∈ outRegs, q ∉ [Reg.status] ∧ q ∉ [Reg.idRef, .iqRef] := by decide
        obtain ⟨hstatus, href⟩ := hapart r hout
        exact (hraise.get_eq hstatus).trans ((hrefs.get_eq href).trans (s.get_zeroOutputs_of_mem hout))

end Sys2Proof.Machine
end

section
/-! The system commands (48_system_ops.md): what a word that decodes says of its command, the step that runs a command
from CMD, two frames of it, and the statements about NOP and CLRSTAT. -/

namespace Sys2Proof.Machine

/-! ### A word that decodes -/

theorem inFormat_eq_ok_iff (f : Format) (w : Word) (i j : Instr) :
    inFormat f w i = .ok j ↔ w &&& f.mask = (opField w).setWidth 32 <<< 24 ∧ i = j := by
  unfold inFormat
  split <;> simp [*]

/-- The command a word decodes to is of the row of the opcode map that the word's opcode names, and the word has passed
that row's format check (R83, R84). -/
theorem opcode_and_mask_of_decode {w : Word} {i : Instr} (h : decode w = .ok i) :
    opField w = i.opcode ∧ w &&& i.format.mask = i.opcode.setWidth 32 <<< 24 := by
  unfold decode at h
  split at h
  case h_32 => cases h
  all_goals
    rename_i hop
    obtain ⟨hmask, rfl⟩ := (inFormat_eq_ok_iff _ _ _ _).mp h
    rw [hop] at hmask
    exact ⟨hop, hmask⟩

/-- The mask of NOP's format leaves out no bit, so its opcode fixes the whole word. -/
theorem decode_eq_nop_iff (w : Word) : decode w = .ok .nop ↔ w = 0 := by
  constructor
  · intro h
    obtain ⟨_, hmask⟩ := opcode_and_mask_of_decode h
    exact (BitVec.and_allOnes (x := w)).symm.trans hmask
  · rintro rfl
    rfl

/-! ### A command written to CMD -/

/-- A step whose next event writes a word to CMD stores the word and executes it (R61, R25). -/
theorem step_of_wr_cmd (s : State) (w : Word) (rest : List PortEvent) (hport : s.port = .wr 0x10#8 w :: rest) :
    step s = ({ s with port := rest, cmd := w } : State).execute w := by
  rw [step, State.nextEvent, hport]
  rfl

theorem State.execute_of_decode (s : State) {w : Word} {i : Instr} (h : decode w = .ok i) :
    s.execute w = exec i s := by
  rw [State.execute, h]

theorem State.sameBut_cmd (s : State) (v : Word) : SameBut [.cmd] s { s with cmd := v } := by
  refine ⟨fun r hr => ?_, rfl, rfl, rfl⟩
  cases r
  case cmd => simp at hr
  all_goals rfl

/-! ### ILL and ACC together -/

theorem clearBit_ill_acc (status : Word) : clearBit (clearBit status .ill) .acc = status &&& 0xFFFFFFF3#32 :=
  BitVec.and_assoc status (~~~4#32) (~~~8#32)

/-! ### The answer of each command -/

theorem exec_nop (s : State) : exec .nop s = .next s := rfl

/-- CLRSTAT is one write to STATUS. -/
theorem exec_clrstat (s : State) : exec .clrstat s = .next { s with status := s.status &&& 0xFFFFFFF3#32 } := by
  rw [← clearBit_ill_acc]
  rfl

/-! ### The statements -/

/-- Settles O52: NOP answers the state itself, so a step that runs it leaves only the store to CMD. -/
theorem nopChangesNothing : Obligations.NopChangesNothing := by
  refine ⟨⟨rfl, rfl⟩, decode_eq_nop_iff, exec_nop, fun s rest hport => ?_⟩
  have hdecode : decode 0#32 = .ok .nop := (decode_eq_nop_iff 0#32).mpr rfl
  refine ⟨{ s with port := rest, cmd := 0#32 }, ?_, rfl, State.sameBut_cmd { s with port := rest } 0#32⟩
  rw [step_of_wr_cmd s 0#32 rest hport, State.execute_of_decode _ hdecode, exec_nop]

/-- Settles O53: CLRSTAT is one write to STATUS, under the mask that leaves out ILL and ACC. -/
theorem clrstatClearsDiagnostics : Obligations.ClrstatClearsDiagnostics := by
  intro s
  exact ⟨⟨rfl, rfl⟩, _, exec_clrstat s, rfl, s.sameBut_status _⟩

end Sys2Proof.Machine
end

section
/-! The errors of the port (60_exceptions.md): a word that matches no row of the opcode map names no command, what
executing such a word does, and the statement about an illegal command. -/

namespace Sys2Proof.Machine

/-! ### A word that names no command -/

/-- Every command's opcode stands in the opcode map beside the mask of its format (R82, R83). -/
theorem opcode_mask_mem_opcodeMap (i : Instr) : (i.opcode, i.format.mask) ∈ Rule.opcodeMap := by
  cases i <;> simp [Instr.opcode, Instr.format, Format.mask, Rule.opcodeMap]

theorem legalWord_of_decode {w : Word} {i : Instr} (h : decode w = .ok i) : Rule.LegalWord w := by
  obtain ⟨_, hmask⟩ := opcode_and_mask_of_decode h
  exact ⟨_, opcode_mask_mem_opcodeMap i, hmask⟩

/-- Executing a word that matches no row of the opcode map raises ILL and does nothing else (R84, R85, R251). -/
theorem State.execute_of_not_legalWord (s : State) {w : Word} (h : ¬Rule.LegalWord w) :
    s.execute w = .next (s.raise .ill) := by
  cases hdecode : decode w with
  | ok i => exact absurd (legalWord_of_decode hdecode) h
  | error e => rw [State.execute, hdecode]

/-! ### The statement -/

/-- Settles O5: the store to CMD, then the one write to STATUS that raises ILL. -/
theorem illegalCommandSetsIll : Obligations.IllegalCommandSetsIll := by
  intro s w rest hport hillegal
  have hcmd : SameBut [.cmd] { s with port := rest } { s with port := rest, cmd := w } :=
    State.sameBut_cmd { s with port := rest } w
  have hraise : SameBut [.status] { s with port := rest, cmd := w }
      (({ s with port := rest, cmd := w } : State).raise .ill) := State.sameBut_status _ _
  refine ⟨_, ?_, rfl, rfl, (hcmd.trans hraise).mono (List.Perm.swap _ _ _).subset⟩
  rw [step_of_wr_cmd s w rest hport, State.execute_of_not_legalWord _ hillegal]

end Sys2Proof.Machine
end

section
/-! Reset (70_reset_and_hazards.md): what a register reads in a reset state and after the reset event, the step that
takes that event, and the statement about the reset values. -/

namespace Sys2Proof.Machine

set_option Elab.async false

/-! ### Reading a register after reset -/

@[simp] theorem State.getX_resetWith (c : Config) (n : RegIdx) : (State.resetWith c).getX n = 0 :=
  Vector.getElem_replicate _

/-- Every register of the map is 0 in the reset state of any configuration (R39, R271). -/
@[simp] theorem State.get_resetWith (c : Config) (r : Reg) : (State.resetWith c).get r = 0 := by
  cases r with
  | x n => exact State.getX_resetWith c n
  | _ => rfl

/-- What the reset event keeps beside the parameters, the port and the last word read, is not in the map (R271). -/
theorem State.get_resetEvent (s : State) (r : Reg) : s.resetEvent.get r = (State.resetWith s.cfg).get r := by
  cases r <;> rfl

/-! ### The step that takes a reset event -/

theorem step_of_reset (s : State) (rest : List PortEvent) (hport : s.port = .reset :: rest) :
    step s = .next ({ s with port := rest } : State).resetEvent := by
  simp only [step, State.nextEvent, hport, State.portEvent]

/-! ### The statement -/

/-- Settles O11: one fact about the reset state of a configuration serves the three cases, since the reset event's
registers are those of the reset state of the block's own configuration. -/
theorem resetReadsZero : Obligations.ResetReadsZero := by
  refine ⟨State.get_resetWith Config.built, State.get_resetWith, fun s rest hport => ?_⟩
  refine ⟨_, step_of_reset s rest hport, fun r => ?_, rfl⟩
  rw [State.get_resetEvent, State.get_resetWith]

end Sys2Proof.Machine
end

section
/-! The encoding (30_encoding.md): reading a field of a packed word, what the mask of a format says of the fields it
covers, the one shape that `decode` has for every row of the opcode map, and the statements about words. -/

namespace Sys2Proof.Machine

/-! ### The fields of a word -/

/-- A field above the lowest register field does not see it. -/
theorem extractLsb'_append_above {n : Nat} (high : BitVec n) (low : RegIdx) (start len : Nat) :
    (high ++ low).extractLsb' (start + 4) len = high.extractLsb' start len :=
  BitVec.extractLsb'_append_eq_of_le (Nat.le_add_left 4 start)

section
variable (op : BitVec 8) (rd rd2 rs1 rs2 rs3 rs4 : RegIdx)

@[simp] theorem rs4Field_packFields : rs4Field (packFields op rd rd2 rs1 rs2 rs3 rs4) = rs4 :=
  BitVec.extractLsb'_append_eq_right

@[simp] theorem rs3Field_packFields : rs3Field (packFields op rd rd2 rs1 rs2 rs3 rs4) = rs3 :=
  (extractLsb'_append_above _ _ 0 4).trans BitVec.extractLsb'_append_eq_right

@[simp] theorem rs2Field_packFields : rs2Field (packFields op rd rd2 rs1 rs2 rs3 rs4) = rs2 :=
  (extractLsb'_append_above _ _ 4 4).trans <| (extractLsb'_append_above _ _ 0 4).trans
    BitVec.extractLsb'_append_eq_right

@[simp] theorem rs1Field_packFields : rs1Field (packFields op rd rd2 rs1 rs2 rs3 rs4) = rs1 :=
  (extractLsb'_append_above _ _ 8 4).trans <| (extractLsb'_append_above _ _ 4 4).trans <|
    (extractLsb'_append_above _ _ 0 4).trans BitVec.extractLsb'_append_eq_right

@[simp] theorem rd2Field_packFields : rd2Field (packFields op rd rd2 rs1 rs2 rs3 rs4) = rd2 :=
  (extractLsb'_append_above _ _ 12 4).trans <| (extractLsb'_append_above _ _ 8 4).trans <|
    (extractLsb'_append_above _ _ 4 4).trans <| (extractLsb'_append_above _ _ 0 4).trans
      BitVec.extractLsb'_append_eq_right

@[simp] theorem rdField_packFields : rdField (packFields op rd rd2 rs1 rs2 rs3 rs4) = rd :=
  (extractLsb'_append_above _ _ 16 4).trans <| (extractLsb'_append_above _ _ 12 4).trans <|
    (extractLsb'_append_above _ _ 8 4).trans <| (extractLsb'_append_above _ _ 4 4).trans <|
      (extractLsb'_append_above _ _ 0 4).trans BitVec.extractLsb'_append_eq_right

@[simp] theorem opField_packFields : opField (packFields op rd rd2 rs1 rs2 rs3 rs4) = op :=
  (extractLsb'_append_above _ _ 20 8).trans <| (extractLsb'_append_above _ _ 16 8).trans <|
    (extractLsb'_append_above _ _ 12 8).trans <| (extractLsb'_append_above _ _ 8 8).trans <|
      (extractLsb'_append_above _ _ 4 8).trans BitVec.extractLsb'_append_eq_left

end

/-- The seven fields leave out no bit of the word (R81). -/
theorem packFields_fields (w : Word) :
    packFields (opField w) (rdField w) (rd2Field w) (rs1Field w) (rs2Field w) (rs3Field w) (rs4Field w) = w := by
  unfold packFields opField rdField rd2Field rs1Field rs2Field rs3Field rs4Field
  iterate 6 rw [BitVec.extractLsb'_append_extractLsb'_eq_extractLsb' (by norm_num)]
  exact BitVec.extractLsb'_eq_self

/-- Two packed words are equal field by field. -/
theorem packFields_inj {op op' : BitVec 8} {rd rd2 a b c d rd' rd2' a' b' c' d' : RegIdx} :
    packFields op rd rd2 a b c d = packFields op' rd' rd2' a' b' c' d' ↔
      op = op' ∧ rd = rd' ∧ rd2 = rd2' ∧ a = a' ∧ b = b' ∧ c = c' ∧ d = d' := by
  refine ⟨fun h => ⟨?_, ?_, ?_, ?_, ?_, ?_, ?_⟩, ?_⟩
  · simpa using congrArg opField h
  · simpa using congrArg rdField h
  · simpa using congrArg rd2Field h
  · simpa using congrArg rs1Field h
  · simpa using congrArg rs2Field h
  · simpa using congrArg rs3Field h
  · simpa using congrArg rs4Field h
  · rintro ⟨rfl, rfl, rfl, rfl, rfl, rfl, rfl⟩
    rfl

/-! ### The masks -/

/-- A word under a mask is an opcode alone exactly when each of its fields under its part of the mask is (R82). -/
theorem and_packFields_eq_opcode_iff (w : Word) (op p : BitVec 8) (q1 q2 q3 q4 q5 q6 : RegIdx) :
    w &&& packFields p q1 q2 q3 q4 q5 q6 = op.setWidth 32 <<< 24 ↔
      opField w &&& p = op ∧ rdField w &&& q1 = 0 ∧ rd2Field w &&& q2 = 0 ∧ rs1Field w &&& q3 = 0 ∧
        rs2Field w &&& q4 = 0 ∧ rs3Field w &&& q5 = 0 ∧ rs4Field w &&& q6 = 0 := by
  conv_lhs => rw [← packFields_fields w]
  rw [Laws.packFields_and, ← Laws.packFields_opcode, packFields_inj]

theorem regIdx_and_ones (r : RegIdx) : r &&& 0xF = r := BitVec.and_allOnes

theorem opcode_and_ones (op : BitVec 8) : op &&& 0xFF = op := BitVec.and_allOnes

theorem opField_mask (f : Format) : opField f.mask = 0xFF := by
  cases f <;> decide

/-- Every mask covers the opcode (R82). -/
theorem opField_of_mask {w : Word} {f : Format} {op : BitVec 8} (h : w &&& f.mask = op.setWidth 32 <<< 24) :
    opField w = op := by
  calc opField w = opField w &&& opField f.mask := by rw [opField_mask, opcode_and_ones]
    _ = opField (w &&& f.mask) := BitVec.extractLsb'_and.symm
    _ = op := by rw [h, ← Laws.packFields_opcode, opField_packFields]

/-- The encoding of a command has zeros in the fields its format does not use (R88). -/
theorem encode_and_mask (i : Instr) : encode i &&& i.format.mask = i.opcode.setWidth 32 <<< 24 := by
  cases i with
  | nop => exact Laws.FormatMask.nop
  | add => exact Laws.FormatMask.add _ _ _
  | sub => exact Laws.FormatMask.sub _ _ _
  | mul => exact Laws.FormatMask.mul _ _ _
  | div => exact Laws.FormatMask.div _ _ _
  | fromint => exact Laws.FormatMask.fromint _ _
  | toint => exact Laws.FormatMask.toint _ _
  | fromfrac => exact Laws.FormatMask.fromfrac _ _ _
  | wrap => exact Laws.FormatMask.wrap _ _
  | sincos => exact Laws.FormatMask.sincos _ _ _
  | asr => exact Laws.FormatMask.asr _ _ _
  | clarke => exact Laws.FormatMask.clarke _ _ _ _
  | iclarke => exact Laws.FormatMask.iclarke _ _ _ _ _
  | park => exact Laws.FormatMask.park _ _ _ _ _
  | ipark => exact Laws.FormatMask.ipark _ _ _ _ _
  | pid0 => exact Laws.FormatMask.pid0 _ _ _ _
  | pid1 => exact Laws.FormatMask.pid1 _ _ _ _
  | pid2 => exact Laws.FormatMask.pid2 _ _ _ _
  | slewd => exact Laws.FormatMask.slewd _ _ _ _
  | slewq => exact Laws.FormatMask.slewq _ _ _ _
  | sstep => exact Laws.FormatMask.sstep _ _ _
  | pllstep => exact Laws.FormatMask.pllstep _ _ _ _ _ _
  | focstep => exact Laws.FormatMask.focstep _ _ _ _ _
  | svpwm => exact Laws.FormatMask.svpwm _ _
  | stinit => exact Laws.FormatMask.stinit
  | sttick => exact Laws.FormatMask.sttick _ _ _ _
  | tick => exact Laws.FormatMask.tick
  | reinit => exact Laws.FormatMask.reinit
  | clrstat => exact Laws.FormatMask.clrstat
  | calinit => exact Laws.FormatMask.calinit _ _
  | calupd => exact Laws.FormatMask.calupd _

/-! ### One row of the opcode map -/

/-- The command of `i`'s row of the opcode map with the operands that the word `w` holds (R81, R83). -/
def reread (i : Instr) (w : Word) : Instr :=
  match i with
  | .nop => .nop
  | .add .. => .add (rdField w) (rs1Field w) (rs2Field w)
  | .sub .. => .sub (rdField w) (rs1Field w) (rs2Field w)
  | .mul .. => .mul (rdField w) (rs1Field w) (rs2Field w)
  | .div .. => .div (rdField w) (rs1Field w) (rs2Field w)
  | .fromint .. => .fromint (rdField w) (rs1Field w)
  | .toint .. => .toint (rdField w) (rs1Field w)
  | .fromfrac .. => .fromfrac (rdField w) (rs1Field w) (rs2Field w)
  | .wrap .. => .wrap (rdField w) (rs1Field w)
  | .sincos .. => .sincos (rdField w) (rd2Field w) (rs1Field w)
  | .asr .. => .asr (rdField w) (rs1Field w) (rs2Field w)
  | .clarke .. => .clarke (rdField w) (rd2Field w) (rs1Field w) (rs2Field w)
  | .iclarke .. => .iclarke (rdField w) (rd2Field w) (rs3Field w) (rs1Field w) (rs2Field w)
  | .park .. => .park (rdField w) (rd2Field w) (rs1Field w) (rs2Field w) (rs3Field w)
  | .ipark .. => .ipark (rdField w) (rd2Field w) (rs1Field w) (rs2Field w) (rs3Field w)
  | .pid0 .. => .pid0 (rdField w) (rs1Field w) (rs2Field w) (rs3Field w)
  | .pid1 .. => .pid1 (rdField w) (rs1Field w) (rs2Field w) (rs3Field w)
  | .pid2 .. => .pid2 (rdField w) (rs1Field w) (rs2Field w) (rs3Field w)
  | .slewd .. => .slewd (rdField w) (rs1Field w) (rs2Field w) (rs3Field w)
  | .slewq .. => .slewq (rdField w) (rs1Field w) (rs2Field w) (rs3Field w)
  | .sstep .. => .sstep (rdField w) (rs1Field w) (rs2Field w)
  | .pllstep .. => .pllstep (rdField w) (rd2Field w) (rs1Field w) (rs2Field w) (rs3Field w) (rs4Field w)
  | .focstep .. => .focstep (rdField w) (rd2Field w) (rs1Field w) (rs2Field w) (rs3Field w)
  | .svpwm .. => .svpwm (rs1Field w) (rs2Field w)
  | .stinit => .stinit
  | .sttick .. => .sttick (rdField w) (rs1Field w) (rs2Field w) (rs3Field w)
  | .tick => .tick
  | .reinit => .reinit
  | .clrstat => .clrstat
  | .calinit .. => .calinit (rs1Field w) (rs2Field w)
  | .calupd .. => .calupd (rs1Field w)

/-- On a word with the opcode of `i`'s row the decoder is that row's format check. -/
theorem decode_of_opField {w : Word} {i : Instr} (h : opField w = i.opcode) :
    decode w = inFormat i.format w (reread i w) := by
  unfold decode
  rw [h]
  cases i <;> rfl

theorem decode_eq_ok_iff (w : Word) (i : Instr) :
    decode w = .ok i ↔ w &&& i.format.mask = i.opcode.setWidth 32 <<< 24 ∧ reread i w = i := by
  constructor
  · intro h
    obtain ⟨hop, hmask⟩ := opcode_and_mask_of_decode h
    rw [decode_of_opField hop, inFormat_eq_ok_iff] at h
    obtain ⟨-, hi⟩ := h
    exact ⟨hmask, hi⟩
  · rintro ⟨hmask, hi⟩
    have hop := opField_of_mask hmask
    rw [decode_of_opField hop, inFormat_eq_ok_iff, hop]
    exact ⟨hmask, hi⟩

/-- The operands stand in the encoding where the decoder reads them. -/
theorem reread_encode (i : Instr) : reread i (encode i) = i := by
  cases i <;> simp [reread, encode]

/-- The opcode `op` with the fields of `w` that the format uses, zeros elsewhere (R82, R88). -/
def packFormat (f : Format) (op : BitVec 8) (w : Word) : Word :=
  match f with
  | .z => packFields op 0 0 0 0 0 0
  | .s1 => packFields op 0 0 (rs1Field w) 0 0 0
  | .s2 => packFields op 0 0 (rs1Field w) (rs2Field w) 0 0
  | .d1s1 => packFields op (rdField w) 0 (rs1Field w) 0 0 0
  | .d1s2 => packFields op (rdField w) 0 (rs1Field w) (rs2Field w) 0 0
  | .d1s3 => packFields op (rdField w) 0 (rs1Field w) (rs2Field w) (rs3Field w) 0
  | .d2s1 => packFields op (rdField w) (rd2Field w) (rs1Field w) 0 0 0
  | .d2s2 => packFields op (rdField w) (rd2Field w) (rs1Field w) (rs2Field w) 0 0
  | .d3s2 => packFields op (rdField w) (rd2Field w) (rs1Field w) (rs2Field w) (rs3Field w) 0
  | .d2s3 => packFields op (rdField w) (rd2Field w) (rs1Field w) (rs2Field w) (rs3Field w) 0
  | .d2s4 => packFields op (rdField w) (rd2Field w) (rs1Field w) (rs2Field w) (rs3Field w) (rs4Field w)

theorem encode_reread (i : Instr) (w : Word) : encode (reread i w) = packFormat i.format i.opcode w := by
  cases i <;> rfl

/-- A word that passes the format check is the opcode and the fields that the format uses (R84). -/
theorem packFormat_of_mask {w : Word} {f : Format} {op : BitVec 8} (h : w &&& f.mask = op.setWidth 32 <<< 24) :
    packFormat f op w = w := by
  conv_rhs => rw [← packFields_fields w]
  open Laws.FormatMask in
  cases f <;>
    simp only [mask_z, mask_s1, mask_s2, mask_d1s1, mask_d1s2, mask_d1s3, mask_d2s1, mask_d2s2, mask_d3s2, mask_d2s3,
      mask_d2s4, and_packFields_eq_opcode_iff, regIdx_and_ones, opcode_and_ones] at h <;>
    simp only [packFormat, h]

/-- One command of each row of the opcode map. -/
def oneOfEachRow : List Instr :=
  [.nop, .add 0 0 0, .sub 0 0 0, .mul 0 0 0, .div 0 0 0, .fromint 0 0, .toint 0 0, .fromfrac 0 0 0, .wrap 0 0,
   .sincos 0 0 0, .asr 0 0 0, .clarke 0 0 0 0, .iclarke 0 0 0 0 0, .park 0 0 0 0 0, .ipark 0 0 0 0 0, .pid0 0 0 0 0,
   .pid1 0 0 0 0, .pid2 0 0 0 0, .slewd 0 0 0 0, .slewq 0 0 0 0, .sstep 0 0 0, .pllstep 0 0 0 0 0 0,
   .focstep 0 0 0 0 0, .svpwm 0 0, .stinit, .sttick 0 0 0 0, .tick, .reinit, .clrstat, .calinit 0 0, .calupd 0]

theorem opcodeMap_eq : Rule.opcodeMap = oneOfEachRow.map fun i => (i.opcode, i.format.mask) := rfl

/-- A word that matches a row of the opcode map decodes to a command of that row (R82 to R84). -/
theorem exists_decode_of_legalWord {w : Word} (h : Rule.LegalWord w) : ∃ i, decode w = .ok i := by
  obtain ⟨row, hrow, hmask⟩ := h
  rw [opcodeMap_eq, List.mem_map] at hrow
  obtain ⟨i, -, rfl⟩ := hrow
  have hop : opField w = i.opcode := opField_of_mask hmask
  refine ⟨reread i w, ?_⟩
  rw [decode_of_opField hop, inFormat_eq_ok_iff, hop]
  exact ⟨hmask, rfl⟩

/-! ### The statements -/

/-- Settles O1: the encoding passes its row's format check, and the row reads the operands back. -/
theorem decodeOfEncode : Obligations.DecodeOfEncode := fun i =>
  (decode_eq_ok_iff _ i).mpr ⟨encode_and_mask i, reread_encode i⟩

/-- Settles O2: the format check leaves no bit of the word but the opcode and the operands read from it. -/
theorem encodeOfDecode : Obligations.EncodeOfDecode := by
  intro w i h
  obtain ⟨hmask, hi⟩ := (decode_eq_ok_iff w i).mp h
  calc encode i = encode (reread i w) := by rw [hi]
    _ = packFormat i.format i.opcode w := encode_reread i w
    _ = w := packFormat_of_mask hmask

/-- Settles O3: each row of the opcode map is the opcode and the mask of one constructor. -/
theorem legalWordsDecode : Obligations.LegalWordsDecode := by
  intro w
  refine ⟨⟨fun ⟨_, hi⟩ => legalWord_of_decode hi, exists_decode_of_legalWord⟩, fun i hi => ?_⟩
  obtain ⟨-, hmask⟩ := opcode_and_mask_of_decode hi
  exact ⟨_, opcode_mask_mem_opcodeMap i, rfl, hmask⟩

/-- Settles O4: each word is the encoding of its command. -/
theorem exampleWordsDecode : Obligations.ExampleWordsDecode :=
  ⟨decodeOfEncode (.add 3 1 2), decodeOfEncode (.sincos 4 5 0), decodeOfEncode (.iclarke 1 2 3 4 5),
    decodeOfEncode (.pllstep 8 9 1 2 3 4), decodeOfEncode (.svpwm 6 7), decodeOfEncode .tick⟩

end Sys2Proof.Machine
end

section
/-! The commands (R83): what each command can do to the state, said once, the ways a control tick can end, and the
statements about what every command leaves alone. -/

namespace Sys2Proof.Machine

/-! ### The update of the startup machine -/

/-- The startup record of a RAMP update before the handoff and the timeout are tested (R204). -/
def rampAdvance (s : State) : StRegs :=
  { s.st with
    iqOl := approach s.st.iqOl s.cfg.stRampIqTarget s.cfg.stRampIqStep
    dtheta := approach s.st.dtheta s.cfg.stDthetaMax s.cfg.stDthetaSlew
    thetaF := wrap (addSat s.st.thetaF (approach s.st.dtheta s.cfg.stDthetaMax s.cfg.stDthetaSlew))
    ticks := incTicks s.st.ticks }

/-- The test of the handoff (R204). -/
def handoffTest (s : State) (w emag2 : Word) : Bool :=
  decide ((incTicks s.st.ticks).toNat ≥ s.cfg.stHandoffMinTicks.toNat) && handoffSignal s.cfg w emag2

theorem stRamp_of_handoff (s : State) (w emag2 : Word) (h : handoffTest s w emag2 = true) :
    stRamp s w emag2 =
      { s with
        idRef := asrWord s.cfg.stAlignId 2
        iqRef := (rampAdvance s).iqOl
        st := { rampAdvance s with state := .blend, ticks := 0, thetaBlend := (rampAdvance s).thetaF } } :=
  if_pos h

theorem stRamp_of_timeout (s : State) (w emag2 : Word) (h : ¬handoffTest s w emag2 = true)
    (htime : s.cfg.stTimeoutTicks.toNat ≤ (incTicks s.st.ticks).toNat) :
    stRamp s w emag2 = { s with idRef := 0, iqRef := 0, st := { rampAdvance s with state := .fail } } :=
  (if_neg h).trans (if_pos htime)

theorem stRamp_of_waiting (s : State) (w emag2 : Word) (h : ¬handoffTest s w emag2 = true)
    (htime : (incTicks s.st.ticks).toNat < s.cfg.stTimeoutTicks.toNat) :
    stRamp s w emag2 =
      { s with idRef := asrWord s.cfg.stAlignId 2, iqRef := (rampAdvance s).iqOl, st := rampAdvance s } :=
  (if_neg h).trans (if_neg htime.not_ge)

theorem stRamp_eq (s : State) (w emag2 : Word) :
    ∃ d q r, stRamp s w emag2 = { s with idRef := d, iqRef := q, st := r } := by
  by_cases h : handoffTest s w emag2 = true
  · exact ⟨_, _, _, stRamp_of_handoff s w emag2 h⟩
  · rcases le_or_gt s.cfg.stTimeoutTicks.toNat (incTicks s.st.ticks).toNat with htime | htime
    · exact ⟨_, _, _, stRamp_of_timeout s w emag2 h htime⟩
    · exact ⟨_, _, _, stRamp_of_waiting s w emag2 h htime⟩

/-- An update of the startup machine writes the startup record and the two references alone (R208). -/
theorem stUpdate_eq (s : State) (w emag2 thObs : Word) :
    ∃ d q r, stUpdate s w emag2 thObs = { s with idRef := d, iqRef := q, st := r } := by
  unfold stUpdate
  split
  case h_3 => exact stRamp_eq s w emag2
  all_goals exact ⟨_, _, _, rfl⟩

/-! ### The ways a control tick can end -/

/-- The state of a tick's pipeline after the update of the startup machine (R212). -/
def State.tickUpdated (s : State) : State :=
  stUpdate (tickObserve s) (tickObserve s).pll.omega (tickObserve s).pll.emag2 (tickObserve s).pll.theta

/-- The state of a tick's pipeline after the current loop on the selected angle (R212). -/
def State.tickLoop (s : State) : State :=
  focStep s.tickUpdated s.inp.ia s.inp.ib (angleSelect s.tickUpdated (tickObserve s).pll.theta)

/-- The end of a pipeline that has not reached FAIL: the loop's voltages go to the SVPWM stage (R212). -/
def State.tickDriven (s : State) : State :=
  { s.tickLoop with out := svpwm s.tickLoop.cfg s.tickLoop.foc.valpha s.tickLoop.foc.vbeta }

theorem tickPipeline_eq (s : State) :
    tickPipeline s = if s.tickUpdated.st.state = .fail then s.tickUpdated.safeStopEntry else s.tickDriven := rfl

/-- The five ways a tick can end (R211 to R214). -/
inductive TickEnd (s : State) : State → Prop where
  /-- The over-current trip. -/
  | trips (hoc : s.PhaseOverCurrent) : TickEnd s s.overCurrentEntry
  /-- STOP on entry. -/
  | stopped (hoc : ¬s.PhaseOverCurrent) (hst : s.st.state = .stop) : TickEnd s s.zeroOutputs
  /-- FAIL on entry. -/
  | failed (hoc : ¬s.PhaseOverCurrent) (hst : s.st.state = .fail) :
      TickEnd s (({ s.zeroOutputs with idRef := 0, iqRef := 0 } : State).raise .safeStop)
  /-- FAIL reached by the update. -/
  | timesOut (hoc : ¬s.PhaseOverCurrent) (hfail : s.tickUpdated.st.state = .fail) :
      TickEnd s s.tickUpdated.safeStopEntry
  /-- The whole pipeline. -/
  | drives (hoc : ¬s.PhaseOverCurrent) (hstop : s.st.state ≠ .stop) (hfail : s.tickUpdated.st.state ≠ .fail) :
      TickEnd s s.tickDriven

theorem tick_of_active (s : State) (hoc : ¬s.PhaseOverCurrent) (hstop : s.st.state ≠ .stop)
    (hfail : s.st.state ≠ .fail) : tick s = tickPipeline s := by
  rw [tick, if_neg (mt (overCurrent_iff s).mp hoc)]
  split
  · exact absurd ‹_› hstop
  · exact absurd ‹_› hfail
  all_goals rfl

theorem tick_ends (s : State) : TickEnd s (tick s) := by
  by_cases hoc : s.PhaseOverCurrent
  · rw [tick_of_phaseOverCurrent s hoc]
    exact .trips hoc
  by_cases hstop : s.st.state = .stop
  · rw [tick_of_stop s hoc hstop]
    exact .stopped hoc hstop
  by_cases hfail : s.st.state = .fail
  · rw [tick_of_fail s hoc hfail]
    exact .failed hoc hfail
  rw [tick_of_active s hoc hstop hfail, tickPipeline_eq]
  split
  · exact .timesOut hoc ‹_›
  · exact .drives hoc hstop ‹_›

/-! ### The answer of each command that has none yet -/

theorem exec_sttick (rd rs1 rs2 rs3 : RegIdx) (s : State) :
    exec (.sttick rd rs1 rs2 rs3) s =
      .next ((stUpdate s (s.getX rs1) (s.getX rs2) (s.getX rs3)).setX rd
        (angleSelect (stUpdate s (s.getX rs1) (s.getX rs2) (s.getX rs3)) (s.getX rs3))) := rfl

theorem exec_calinit (rs1 rs2 : RegIdx) (s : State) :
    exec (.calinit rs1 rs2) s = .next { s with cal := ⟨s.getX rs1, s.getX rs2, calNominal s.cfg, 0⟩ } := rfl

theorem exec_calupd (rs1 : RegIdx) (s : State) :
    exec (.calupd rs1) s = .next { s with cal := calUpdate s.cfg s.cal (s.getX rs1) } := rfl

/-! ### The effect of a command -/

/-- What a command can do. Only the commands named below write a register beside the general registers, the PID
records and the observer's record. -/
inductive CommandEffect (s : State) : Instr → State → Prop where
  | computes {i : Instr} (x : Vector Word 16) (p0 p1 p2 : PidRegs) (p : PllRegs) :
      CommandEffect s i { s with x := x, pid0 := p0, pid1 := p1, pid2 := p2, pll := p }
  | sstep {rd rs1 rs2 : RegIdx} (enable : Bool) (dt v : Word) :
      CommandEffect s (.sstep rd rs1 rs2)
        ({ s with ssGain := softStart s.cfg.ssRise s.ssGain enable dt }.setX rd v)
  | focstep {rd rd2 rs1 rs2 rs3 : RegIdx} (ia ib theta v v2 : Word) :
      CommandEffect s (.focstep rd rd2 rs1 rs2 rs3) ((focStep s ia ib theta).setX2 rd rd2 v v2)
  | svpwm {rs1 rs2 : RegIdx} (al be : Word) :
      CommandEffect s (.svpwm rs1 rs2) { s with out := Machine.svpwm s.cfg al be }
  | stinit : CommandEffect s .stinit s.stinit
  | sttick {rd rs1 rs2 rs3 : RegIdx} (w emag2 thObs v : Word) :
      CommandEffect s (.sttick rd rs1 rs2 rs3) ((stUpdate s w emag2 thObs).setX rd v)
  | tick : CommandEffect s .tick (tick s)
  | reinit : CommandEffect s .reinit s.reinit
  | clrstat : CommandEffect s .clrstat { s with status := s.status &&& 0xFFFFFFF3#32 }
  | calinit {rs1 rs2 : RegIdx} (vref alpha : Word) :
      CommandEffect s (.calinit rs1 rs2) { s with cal := ⟨vref, alpha, calNominal s.cfg, 0⟩ }
  | calupd {rs1 : RegIdx} (raw : Word) :
      CommandEffect s (.calupd rs1) { s with cal := calUpdate s.cfg s.cal raw }

theorem CommandEffect.setX (s : State) (i : Instr) (n : RegIdx) (v : Word) : CommandEffect s i (s.setX n v) :=
  .computes (s.setX n v).x s.pid0 s.pid1 s.pid2 s.pll

theorem CommandEffect.setX2 (s : State) (i : Instr) (n n2 : RegIdx) (v v2 : Word) :
    CommandEffect s i (s.setX2 n n2 v v2) :=
  .computes (s.setX2 n n2 v v2).x s.pid0 s.pid1 s.pid2 s.pll

theorem CommandEffect.setX3 (s : State) (i : Instr) (n n2 n3 : RegIdx) (v v2 v3 : Word) :
    CommandEffect s i (s.setX3 n n2 n3 v v2 v3) :=
  .computes (s.setX3 n n2 n3 v v2 v3).x s.pid0 s.pid1 s.pid2 s.pll

/-- Every command answers a next state, and its effect is the one of its row. -/
theorem exec_effect (i : Instr) (s : State) : ∃ t, exec i s = .next t ∧ CommandEffect s i t := by
  cases i with
  | nop => exact ⟨_, exec_nop s, .computes s.x s.pid0 s.pid1 s.pid2 s.pll⟩
  | add => exact ⟨_, exec_add _ _ _ s, .setX _ _ _ _⟩
  | sub => exact ⟨_, exec_sub _ _ _ s, .setX _ _ _ _⟩
  | mul => exact ⟨_, exec_mul _ _ _ s, .setX _ _ _ _⟩
  | div => exact ⟨_, exec_div _ _ _ s, .setX _ _ _ _⟩
  | fromint => exact ⟨_, exec_fromint _ _ s, .setX _ _ _ _⟩
  | toint => exact ⟨_, exec_toint _ _ s, .setX _ _ _ _⟩
  | fromfrac => exact ⟨_, exec_fromfrac _ _ _ s, .setX _ _ _ _⟩
  | wrap => exact ⟨_, exec_wrap _ _ s, .setX _ _ _ _⟩
  | sincos => exact ⟨_, exec_sincos _ _ _ s, .setX2 _ _ _ _ _ _⟩
  | asr => exact ⟨_, exec_asr _ _ _ s, .setX _ _ _ _⟩
  | clarke => exact ⟨_, exec_clarke _ _ _ _ s, .setX2 _ _ _ _ _ _⟩
  | iclarke => exact ⟨_, exec_iclarke _ _ _ _ _ s, .setX3 _ _ _ _ _ _ _ _⟩
  | park => exact ⟨_, exec_park _ _ _ _ _ s _ _ rfl, .setX2 _ _ _ _ _ _⟩
  | ipark => exact ⟨_, exec_ipark _ _ _ _ _ s _ _ rfl, .setX2 _ _ _ _ _ _⟩
  | pid0 => exact ⟨_, exec_pid0 _ _ _ _ s, .computes _ _ s.pid1 s.pid2 s.pll⟩
  | pid1 => exact ⟨_, exec_pid1 _ _ _ _ s, .computes _ s.pid0 _ s.pid2 s.pll⟩
  | pid2 => exact ⟨_, exec_pid2 _ _ _ _ s, .computes _ s.pid0 s.pid1 _ s.pll⟩
  | slewd => exact ⟨_, exec_slewd _ _ _ _ s, .setX _ _ _ _⟩
  | slewq => exact ⟨_, exec_slewq _ _ _ _ s, .setX _ _ _ _⟩
  | sstep => exact ⟨_, exec_sstep _ _ _ s, .sstep _ _ _⟩
  | pllstep => exact ⟨_, exec_pllstep _ _ _ _ _ _ s _ rfl, .computes _ s.pid0 s.pid1 s.pid2 _⟩
  | focstep => exact ⟨_, exec_focstep _ _ _ _ _ s _ rfl, .focstep _ _ _ _ _⟩
  | svpwm => exact ⟨_, exec_svpwm _ _ s, .svpwm _ _⟩
  | stinit => exact ⟨_, exec_stinit s, .stinit⟩
  | sttick => exact ⟨_, exec_sttick _ _ _ _ s, .sttick _ _ _ _⟩
  | tick => exact ⟨_, exec_tick s, .tick⟩
  | reinit => exact ⟨_, exec_reinit s, .reinit⟩
  | clrstat => exact ⟨_, exec_clrstat s, .clrstat⟩
  | calinit => exact ⟨_, exec_calinit _ _ s, .calinit _ _⟩
  | calupd => exact ⟨_, exec_calupd _ s, .calupd _⟩

theorem effect_of_exec {i : Instr} {s t : State} (h : exec i s = .next t) : CommandEffect s i t := by
  obtain ⟨u, hu, heffect⟩ := exec_effect i s
  obtain rfl : u = t := Host.Outcome.next.inj (hu.symm.trans h)
  exact heffect

/-! ### What every command leaves alone -/

/-- What lies outside the reach of every command: the inputs, CMD, the parameters, the pending events and the last word
read (R28, R20). -/
def State.beyondCommands (s : State) : InRegs × Word × Config × List PortEvent × Option Word :=
  (s.inp, s.cmd, s.cfg, s.port, s.rdData)

theorem beyondCommands_stUpdate (s : State) (w emag2 thObs : Word) :
    (stUpdate s w emag2 thObs).beyondCommands = s.beyondCommands := by
  obtain ⟨d, q, r, h⟩ := stUpdate_eq s w emag2 thObs
  rw [h]
  rfl

theorem cal_stUpdate (s : State) (w emag2 thObs : Word) : (stUpdate s w emag2 thObs).cal = s.cal := by
  obtain ⟨d, q, r, h⟩ := stUpdate_eq s w emag2 thObs
  rw [h]

theorem beyondCommands_tickUpdated (s : State) : s.tickUpdated.beyondCommands = s.beyondCommands :=
  beyondCommands_stUpdate (tickObserve s) _ _ _

theorem beyondCommands_focStep (s : State) (ia ib theta : Word) :
    (focStep s ia ib theta).beyondCommands = s.beyondCommands := rfl

theorem beyondCommands_out (s : State) (o : OutRegs) :
    ({ s with out := o } : State).beyondCommands = s.beyondCommands := rfl

theorem beyondCommands_tickDriven (s : State) : s.tickDriven.beyondCommands = s.beyondCommands :=
  calc s.tickDriven.beyondCommands = s.tickLoop.beyondCommands := beyondCommands_out _ _
    _ = s.tickUpdated.beyondCommands := beyondCommands_focStep _ _ _ _
    _ = s.beyondCommands := beyondCommands_tickUpdated s

theorem State.beyondCommands_safeStopEntry (s : State) : s.safeStopEntry.beyondCommands = s.beyondCommands := rfl

theorem beyondCommands_tick (s : State) : (tick s).beyondCommands = s.beyondCommands := by
  have h := tick_ends s
  generalize tick s = t at h ⊢
  cases h with
  | trips | stopped | failed => rfl
  | timesOut => rw [State.beyondCommands_safeStopEntry, beyondCommands_tickUpdated]
  | drives => exact beyondCommands_tickDriven s

theorem cal_tickUpdated (s : State) : s.tickUpdated.cal = s.cal := cal_stUpdate (tickObserve s) _ _ _

theorem cal_focStep (s : State) (ia ib theta : Word) : (focStep s ia ib theta).cal = s.cal := rfl

theorem cal_tickDriven (s : State) : s.tickDriven.cal = s.cal :=
  calc s.tickDriven.cal = s.tickLoop.cal := rfl
    _ = s.tickUpdated.cal := cal_focStep _ _ _ _
    _ = s.cal := cal_tickUpdated s

theorem cal_tick (s : State) : (tick s).cal = s.cal := by
  have h := tick_ends s
  generalize tick s = t at h ⊢
  cases h with
  | trips | stopped | failed => rfl
  | timesOut => exact cal_tickUpdated s
  | drives => exact cal_tickDriven s

theorem CommandEffect.beyondCommands {i : Instr} {s t : State} (h : CommandEffect s i t) :
    t.beyondCommands = s.beyondCommands := by
  cases h with
  | sttick => exact beyondCommands_stUpdate s _ _ _
  | tick => exact beyondCommands_tick s
  | _ => rfl

theorem CommandEffect.cal {i : Instr} {s t : State} (h : CommandEffect s i t)
    (hinit : ∀ rs1 rs2, i ≠ .calinit rs1 rs2) (hupd : ∀ rs1, i ≠ .calupd rs1) : t.cal = s.cal := by
  cases h with
  | calinit => exact absurd rfl (hinit _ _)
  | calupd => exact absurd rfl (hupd _)
  | sttick => exact cal_stUpdate s _ _ _
  | tick => exact cal_tick s
  | _ => rfl

/-! ### The statement -/

/-- Settles O60, from the effect of each command. -/
theorem commandsLeaveInputsAndCalibrator : Obligations.CommandsLeaveInputsAndCalibrator := by
  intro i s
  obtain ⟨t, ht, heffect⟩ := exec_effect i s
  obtain ⟨hinp, hcmd, hcfg, hport, hrd⟩ : t.inp = s.inp ∧ t.cmd = s.cmd ∧ t.cfg = s.cfg ∧ t.port = s.port ∧
      t.rdData = s.rdData := by simpa [State.beyondCommands] using heffect.beyondCommands
  exact ⟨t, ht, hinp, hcmd, hcfg, hport, hrd, heffect.cal⟩

end Sys2Proof.Machine
end

section
/-! The host port (20_memory.md): the register map and its inverse, the frame of a plain store, the step that takes each
kind of event, and the statements about the port. -/

namespace Sys2Proof.Machine

set_option Elab.async false

/-! ### The register map -/

/-- The word index of a register (R24). -/
def Reg.index : Reg → PortIdx
  | .x n => n.setWidth 8
  | .cmd => 0x10
  | .status => 0x11
  | .inIa => 0x18
  | .inIb => 0x19
  | .inIc => 0x1A
  | .inVa => 0x1B
  | .inVb => 0x1C
  | .inVbus => 0x1D
  | .idRef => 0x1E
  | .iqRef => 0x1F
  | .outCmpA => 0x20
  | .outCmpB => 0x21
  | .outCmpC => 0x22
  | .outMarker => 0x23
  | .svmSector => 0x24
  | .svmT0 => 0x25
  | .svmT1 => 0x26
  | .svmT2 => 0x27
  | .svmDa => 0x28
  | .svmDb => 0x29
  | .svmDc => 0x2A
  | .focIalpha => 0x30
  | .focIbeta => 0x31
  | .focId => 0x32
  | .focIq => 0x33
  | .focVd => 0x34
  | .focVq => 0x35
  | .focValpha => 0x36
  | .focVbeta => 0x37
  | .focVbus => 0x38
  | .focTheta => 0x39
  | .slewVd => 0x3A
  | .slewVq => 0x3B
  | .ssGain => 0x3C
  | .pid0Integ => 0x40
  | .pid0Prev => 0x41
  | .pid1Integ => 0x42
  | .pid1Prev => 0x43
  | .pid2Integ => 0x44
  | .pid2Prev => 0x45
  | .pllTheta => 0x50
  | .pllOmega => 0x51
  | .pllInteg => 0x52
  | .pllIaPrev => 0x53
  | .pllIbPrev => 0x54
  | .pllDiaF => 0x55
  | .pllDibF => 0x56
  | .pllEa => 0x57
  | .pllEb => 0x58
  | .pllEmag2 => 0x59
  | .pllErr => 0x5A
  | .stState => 0x60
  | .stTicks => 0x61
  | .stThetaF => 0x62
  | .stDtheta => 0x63
  | .stIqOl => 0x64
  | .stThetaBlend => 0x65
  | .calVref => 0x70
  | .calAlpha => 0x71
  | .calVpc => 0x72
  | .calValid => 0x73

theorem Reg.ofIndex_setWidth (n : RegIdx) : Reg.ofIndex (n.setWidth 8) = some (.x n) := by
  revert n
  decide

@[simp] theorem Reg.ofIndex_index (r : Reg) : Reg.ofIndex r.index = some r := by
  cases r with
  | x n => exact Reg.ofIndex_setWidth n
  | _ => rfl

theorem Reg.index_of_ofIndex {i : PortIdx} {r : Reg} (h : Reg.ofIndex i = some r) : r.index = i := by
  have hall : ∀ i, ∀ r ∈ Reg.ofIndex i, r.index = i := by decide
  exact hall i r h

theorem ofIndex_eq_none_iff : ∀ idx : PortIdx, Reg.ofIndex idx = none ↔
    ∃ p ∈ Rule.unmappedRanges, p.1 ≤ idx.toNat ∧ idx.toNat ≤ p.2 := by decide

theorem access_x_iff : ∀ n : RegIdx, (Reg.x n).access = .rw ↔
    (Reg.x n).index.toNat ≤ 0x10 ∨ (0x18 ≤ (Reg.x n).index.toNat ∧ (Reg.x n).index.toNat ≤ 0x1F) := by decide

/-- The writable registers are those of two ranges of indices (R24). -/
theorem Reg.access_eq_rw_iff (r : Reg) :
    r.access = .rw ↔ r.index.toNat ≤ 0x10 ∨ (0x18 ≤ r.index.toNat ∧ r.index.toNat ≤ 0x1F) := by
  cases r with
  | x n => exact access_x_iff n
  | _ => decide

/-- Settles O10: the map from registers to indices is the inverse of the map from indices to registers. -/
theorem registerMapLayout : Obligations.RegisterMapLayout := by
  refine ⟨ofIndex_eq_none_iff, fun idx r hr => ?access, fun i j r hi hj => ?unique, fun r => ⟨_, r.ofIndex_index⟩,
    Reg.ofIndex_setWidth, by decide⟩
  case access =>
    obtain rfl := Reg.index_of_ofIndex hr
    exact r.access_eq_rw_iff
  case unique => exact (Reg.index_of_ofIndex hi).symm.trans (Reg.index_of_ofIndex hj)

/-! ### A plain store -/

theorem SameBut.refl (s : State) : SameBut [] s s := ⟨fun _ _ => rfl, rfl, rfl, rfl⟩

/-- A store into a register changes that register at most (R62). -/
theorem State.sameBut_hostStore (s : State) (r : Reg) (v : Word) : SameBut [r] s (s.hostStore r v) := by
  cases r
  case x n => exact s.sameBut_setX n v
  case cmd => exact s.sameBut_cmd v
  case inIa | inIb | inIc | inVa | inVb | inVbus | idRef | iqRef =>
    refine ⟨fun q hq => ?_, rfl, rfl, rfl⟩
    cases q <;> simp [State.get, State.getX, State.hostStore] at hq ⊢
  all_goals exact (SameBut.refl s).mono (List.nil_subset _)

theorem State.get_hostStore_self (s : State) (r : Reg) (v : Word) (h : r.access = .rw) :
    (s.hostStore r v).get r = v := by
  cases r
  case x n => exact s.getX_setX_self n v
  case cmd | inIa | inIb | inIc | inVa | inVb | inVbus | idRef | iqRef => rfl
  all_goals cases h

/-! ### The step that takes a write or a read -/

theorem step_of_event (s : State) (e : PortEvent) (rest : List PortEvent) (hport : s.port = e :: rest) :
    step s = ({ s with port := rest } : State).portEvent e := by
  rw [step, State.nextEvent, hport]

theorem State.portEvent_wr_store (s : State) (idx : PortIdx) (v : Word) {r : Reg} (hr : Reg.ofIndex idx = some r)
    (haccess : r.access = .rw) (hcmd : r ≠ .cmd) : s.portEvent (.wr idx v) = .next (s.hostStore r v) := by
  simp only [State.portEvent, State.hostWr, hr, haccess, if_neg hcmd]

theorem State.portEvent_wr_refused (s : State) (idx : PortIdx) (v : Word)
    (h : Reg.ofIndex idx = none ∨ ∃ r, Reg.ofIndex idx = some r ∧ r.access = .ro) :
    s.portEvent (.wr idx v) = .next (s.raise .acc) := by
  rcases h with hnone | ⟨r, hr, hro⟩
  · simp only [State.portEvent, State.hostWr, hnone]
  · simp only [State.portEvent, State.hostWr, hr, hro]

theorem State.portEvent_rd_unmapped (s : State) (idx : PortIdx) (h : Reg.ofIndex idx = none) :
    s.portEvent (.rd idx) = .next { s.raise .acc with rdData := some 0 } := by
  simp only [State.portEvent, State.hostRd, h]

theorem State.portEvent_rd_mapped (s : State) (idx : PortIdx) {r : Reg} (hr : Reg.ofIndex idx = some r) :
    s.portEvent (.rd idx) = .next { s with rdData := some (s.get r) } := by
  simp only [State.portEvent, State.hostRd, hr]

/-! ### The statements -/

/-- Settles O7: the step is the store. -/
theorem hostWriteStores : Obligations.HostWriteStores := by
  intro s idx v rest r hport hr haccess hcmd
  refine ⟨_, ?_, State.get_hostStore_self _ r v haccess, State.sameBut_hostStore _ r v⟩
  rw [step_of_event s _ rest hport, State.portEvent_wr_store _ idx v hr haccess hcmd]

/-- Settles O8: a refused access is one write to STATUS. -/
theorem refusedAccessSetsAcc : Obligations.RefusedAccessSetsAcc := by
  intro s idx rest
  refine ⟨fun v hport hrefused => ⟨_, ?write, rfl, State.sameBut_status _ _⟩,
    fun hport hnone => ⟨_, ?read, rfl, State.sameBut_status _ _⟩⟩
  case write =>
    rw [step_of_event s _ rest hport, State.portEvent_wr_refused _ idx v hrefused]
    rfl
  case read =>
    rw [step_of_event s _ rest hport, State.portEvent_rd_unmapped _ idx hnone]
    rfl

/-- Reading a register does not depend on the events that are still to come. -/
theorem State.get_port (s : State) (rest : List PortEvent) (r : Reg) :
    ({ s with port := rest } : State).get r = s.get r := by
  cases r <;> rfl

/-- Settles O9: a read writes the model's own field for the returned word and nothing else. -/
theorem hostReadReturns : Obligations.HostReadReturns := by
  intro s idx rest r hport hr
  refine ⟨_, ?_, SameBut.refl _⟩
  rw [step_of_event s _ rest hport, State.portEvent_rd_mapped _ idx hr, s.get_port]

/-- Settles O6: a word written to CMD is executed, and a word that decodes is executed as its command. -/
theorem stepRunsTheCommand : Obligations.StepRunsTheCommand := by
  intro s w rest i hport hdecode
  rw [step_of_wr_cmd s w rest hport, State.execute_of_decode _ hdecode]

/-! ### Completion -/

theorem State.portEvent_wr_cmd (s : State) (idx : PortIdx) (v : Word) (hr : Reg.ofIndex idx = some .cmd) :
    s.portEvent (.wr idx v) = ({ s with cmd := v } : State).execute v := by
  simp only [State.portEvent, State.hostWr, hr, Reg.access, if_true, State.hostStore]

theorem State.execute_completes (s : State) (v : Word) :
    ∃ t, s.execute v = .next t ∧ t.cfg = s.cfg ∧ t.port = s.port := by
  cases hdecode : decode v with
  | error e => exact ⟨s.raise .ill, by rw [State.execute, hdecode], rfl, rfl⟩
  | ok i =>
    obtain ⟨t, ht, -, -, hcfg, hport, -⟩ := commandsLeaveInputsAndCalibrator i s
    exact ⟨t, by rw [s.execute_of_decode hdecode, ht], hcfg, hport⟩

/-- A port event always leads on, keeps the parameters and leaves the later events pending. -/
theorem State.portEvent_completes (s : State) (e : PortEvent) :
    ∃ t, s.portEvent e = .next t ∧ t.cfg = s.cfg ∧ t.port = s.port := by
  cases e with
  | reset => exact ⟨_, rfl, rfl, rfl⟩
  | rd idx =>
    cases hr : Reg.ofIndex idx with
    | none => exact ⟨_, s.portEvent_rd_unmapped idx hr, rfl, rfl⟩
    | some r => exact ⟨_, s.portEvent_rd_mapped idx hr, rfl, rfl⟩
  | wr idx v =>
    cases hr : Reg.ofIndex idx with
    | none => exact ⟨_, s.portEvent_wr_refused idx v (.inl hr), rfl, rfl⟩
    | some r =>
      cases haccess : r.access with
      | ro => exact ⟨_, s.portEvent_wr_refused idx v (.inr ⟨r, hr, haccess⟩), rfl, rfl⟩
      | rw =>
        by_cases hcmd : r = .cmd
        · subst hcmd
          rw [s.portEvent_wr_cmd idx v hr]
          exact State.execute_completes _ v
        · obtain ⟨-, hcfg, hport, -⟩ := s.sameBut_hostStore r v
          exact ⟨_, s.portEvent_wr_store idx v hr haccess hcmd, hcfg, hport⟩

/-- Settles O12, by whether an event is pending. -/
theorem stepAlwaysCompletes : Obligations.StepAlwaysCompletes := by
  intro s
  cases hport : s.port with
  | nil => exact ⟨s, by rw [step, State.nextEvent, hport], rfl, hport, fun _ => rfl⟩
  | cons e rest =>
    obtain ⟨t, ht, hcfg, hrest⟩ := ({ s with port := rest } : State).portEvent_completes e
    exact ⟨t, by rw [step_of_event s e rest hport, ht], hcfg, hrest, fun hnil => by cases hnil⟩

end Sys2Proof.Machine
end

section
/-! The numeric properties of the fixed-point unit and of the sine/cosine engine (40_fixed_point_kernel.md sections 5
and 7, 41_cordic_sincos.md, 42_transforms.md section 5): symmetry and order of the rounded quotient, the angle range
of one wrap, whole turns, and the statements about them. -/

namespace Sys2Proof.Machine

/-! ### The rounded quotient -/

theorem RoundsTo.neg_left {n d q : Int} (h : RoundsTo n d q) : RoundsTo (-n) d (-q) := by
  have hq : -q * d = -(q * d) := by ring
  unfold RoundsTo at h ⊢
  omega

theorem RoundsTo.neg_right {n d q : Int} (h : RoundsTo n d q) : RoundsTo n (-d) (-q) := by
  have hq : -q * -d = q * d := by ring
  unfold RoundsTo at h ⊢
  omega

theorem rdiv_neg_left (n d : Int) (h : d ≠ 0) : rdiv (-n) d = -rdiv n d :=
  RoundsTo.unique (rdiv_roundsTo (-n) d h) (RoundsTo.neg_left (rdiv_roundsTo n d h))

theorem rdiv_neg_right (n d : Int) (h : d ≠ 0) : rdiv n (-d) = -rdiv n d :=
  RoundsTo.unique (rdiv_roundsTo n (-d) (neg_ne_zero.mpr h)) (RoundsTo.neg_right (rdiv_roundsTo n d h))

/-- A multiple of the divisor is divided without a rounding error. -/
theorem rdiv_mul_cancel (q d : Int) (h : d ≠ 0) : rdiv (q * d) d = q :=
  RoundsTo.unique (rdiv_roundsTo (q * d) d h) ⟨by simp, fun htie => by omega⟩

/-- Rounding keeps the order: a quotient above another would lie a whole divisor from it, which only two equal
dividends at one tie could round to. -/
theorem RoundsTo.mono {n n' d q q' : Int} (hd : 0 < d) (hn : n ≤ n') (h : RoundsTo n d q) (h' : RoundsTo n' d q') :
    q ≤ q' := by
  by_contra hlt
  have hgap : q' * d + d ≤ q * d := by nlinarith
  obtain rfl : n = n' := by
    obtain ⟨hnear, -⟩ := h
    obtain ⟨hnear', -⟩ := h'
    omega
  exact hlt (RoundsTo.unique h h').le

theorem rdiv_mono (n n' d : Int) (hd : 0 < d) (hn : n ≤ n') : rdiv n d ≤ rdiv n' d :=
  RoundsTo.mono hd hn (rdiv_roundsTo n d hd.ne') (rdiv_roundsTo n' d hd.ne')

/-! ### Symmetry and order of the kernel functions -/

@[simp] theorem mul_toInt (a b : Word) : (mul a b).toInt = saturated (rdiv (a.toInt * b.toInt) 65536) := sat32_toInt _

theorem div_toInt (a b : Word) : (div a b).toInt = saturated (rdiv (a.toInt * 65536) b.toInt) := by
  rw [div_eq_sat32_rdiv, sat32_toInt]

/-- MIN alone has no negation (R12). -/
theorem negSat_toInt_of_ne (a : Word) (h : a ≠ MIN) : (negSat a).toInt = -a.toInt := by
  have hmin : a.toInt ≠ -2147483648 := fun he => h (BitVec.eq_of_toInt_eq he)
  have hlo := toInt_lower a
  have hhi := toInt_upper a
  rw [negSat_toInt, saturated_of_mem _ (by omega) (by omega)]

theorem saturated_neg (v : Int) (hlo : -2147483648 < saturated v) (hhi : saturated v < 2147483647) :
    saturated (-v) = -saturated v := by
  unfold saturated at *
  omega

/-- A zero divisor gives an extreme. -/
theorem div_extreme_of_zero (a b : Word) (hb : b.toInt = 0) :
    (div a b).toInt = 2147483647 ∨ (div a b).toInt = -2147483648 := by
  rw [div, if_pos hb]
  split
  · exact .inl rfl
  · exact .inr rfl

/-- Settles O19: rounding is symmetric, and saturation is where no extreme is reached. -/
theorem mulDivSymmetric : Obligations.MulDivSymmetric := by
  intro a b
  refine ⟨fun hlo hhi => ⟨fun ha => ?_, fun hb => ?_⟩, fun hlo hhi => ?_⟩
  · rw [mul_toInt] at hlo hhi
    rw [mul_toInt, negSat_toInt_of_ne a ha, neg_mul, rdiv_neg_left _ _ (by decide), saturated_neg _ hlo hhi, mul_toInt]
  · rw [mul_toInt] at hlo hhi
    rw [mul_toInt, negSat_toInt_of_ne b hb, mul_neg, rdiv_neg_left _ _ (by decide), saturated_neg _ hlo hhi, mul_toInt]
  · have hzero : b.toInt ≠ 0 := fun h0 => by
      have := div_extreme_of_zero a b h0
      omega
    rw [div_toInt] at hlo hhi
    refine ⟨fun ha => ?_, fun hb => ?_⟩
    · rw [div_toInt, negSat_toInt_of_ne a ha, neg_mul, rdiv_neg_left _ _ hzero, saturated_neg _ hlo hhi, div_toInt]
    · rw [div_toInt, negSat_toInt_of_ne b hb, rdiv_neg_right _ _ hzero, saturated_neg _ hlo hhi, div_toInt]

/-- Settles O20: each function is a monotone integer function under the monotone saturation. -/
theorem kernelMonotone : Obligations.KernelMonotone := by
  intro a a' b h
  refine ⟨?_, ?_, fun hb => ?_, fun hb => ?_⟩
  · rw [addSat_toInt, addSat_toInt]
    exact saturated_mono _ _ (by omega)
  · rw [subSat_toInt, subSat_toInt]
    exact saturated_mono _ _ (by omega)
  · rw [mul_toInt, mul_toInt]
    exact saturated_mono _ _ (rdiv_mono _ _ _ (by decide) (mul_le_mul_of_nonneg_right h hb))
  · rw [div_toInt, div_toInt]
    exact saturated_mono _ _ (rdiv_mono _ _ _ hb (by omega))

/-! ### Whole turns -/

/-- The pair depends on the angle's residue modulo one turn alone (R131). -/
theorem sincos_congr (c : Config) {a b : Word} (h : a.toInt % 65536 = b.toInt % 65536) : sincos c a = sincos c b := by
  have hturn : reduceTurn a = reduceTurn b := by
    have ha := turn_dvd_sub_reduceTurn a
    have hb := turn_dvd_sub_reduceTurn b
    have := reduceTurn_lower a
    have := reduceTurn_upper a
    have := reduceTurn_lower b
    have := reduceTurn_upper b
    omega
  rw [sincos, hturn, sincos]

/-- The word's own wrap, 2^32, is a number of whole turns. -/
theorem bmod_emod_turn (v : Int) : v.bmod (2 ^ 32) % 65536 = v % 65536 := by
  have hturns : (65536 : Int) ∣ ((2 ^ 32 : Nat) : Int) := by decide
  exact Int.ModEq.symm (Int.modEq_iff_dvd.mpr (hturns.trans Int.dvd_bmod_sub_self))

/-- Settles O23: whole turns do not change the residue of the angle. -/
theorem sincosIgnoresWholeTurns : Obligations.SincosIgnoresWholeTurns := by
  intro c a k
  apply sincos_congr
  have hturns : (BitVec.ofInt 32 (k * 65536)).toInt % 65536 = k * 65536 % 65536 := by
    rw [BitVec.toInt_ofInt, bmod_emod_turn]
  rw [BitVec.toInt_add, bmod_emod_turn]
  omega

/-- Settles O24: both families of angles are reduced and flipped to the angle 0 of the bypass (R133). -/
theorem sincosExactOnBypass : Obligations.SincosExactOnBypass := by
  intro c a
  have hdvd := turn_dvd_sub_reduceTurn a
  have hlo := reduceTurn_lower a
  have hhi := reduceTurn_upper a
  refine ⟨fun h => ?whole, fun h => ?threeQuarters⟩
  case whole =>
    have hturn : reduceTurn a = 0 := by omega
    rw [sincos, hturn]
    rfl
  case threeQuarters =>
    have hturn : reduceTurn a = -16384 := by omega
    rw [sincos, hturn]
    rfl

/-! ### The angle range -/

theorem wrap_emod_turn (a : Word) : (wrap a).toInt % 65536 = a.toInt % 65536 := by
  rw [wrap_toInt]
  split
  · omega
  · split <;> omega

theorem wrappedAngle_wrap_iff (a : Word) : wrappedAngle (wrap a) ↔ -196608 < a.toInt ∧ a.toInt ≤ 196608 := by
  unfold wrappedAngle
  rw [wrap_toInt]
  split
  · omega
  · split <;> omega

/-- One wrap brings an angle back after a step of at most 2.0 (R276). -/
theorem wrappedAngle_wrap_addSat (a d : Word) (ha : wrappedAngle a) (hlo : -131072 ≤ d.toInt)
    (hhi : d.toInt ≤ 131072) : wrappedAngle (wrap (addSat a d)) := by
  obtain ⟨halo, hahi⟩ := ha
  rw [wrappedAngle_wrap_iff, addSat_toInt, saturated_of_mem _ (by omega) (by omega)]
  omega

/-- Settles O21. -/
theorem wrapKeepsAngleRange : Obligations.WrapKeepsAngleRange := by
  intro c a d
  refine ⟨wrappedAngle_wrap_iff a, fun ⟨hlo, hhi⟩ => ?kept, wrappedAngle_wrap_addSat a d,
    sincos_congr c (wrap_emod_turn a)⟩
  case kept =>
    obtain ⟨-, -, hkept⟩ := wrap_isWrapped a
    exact hkept hlo hhi

/-! ### Park and back -/

theorem mul_ONE (a : Word) : mul a ONE = a := by
  apply BitVec.eq_of_toInt_eq
  rw [mul_toInt, ONE_toInt, rdiv_mul_cancel _ _ (by decide), saturated_of_mem _ (toInt_lower a) (toInt_upper a)]

theorem zero_toInt : (0 : Word).toInt = 0 := rfl

theorem mul_zero_word (a : Word) : mul a 0 = 0 := by
  rw [mul, zero_toInt, Int.mul_zero]
  rfl

theorem addSat_zero (a : Word) : addSat a 0 = a := by
  apply BitVec.eq_of_toInt_eq
  rw [addSat_toInt, zero_toInt, Int.add_zero, saturated_of_mem _ (toInt_lower a) (toInt_upper a)]

theorem zero_addSat (a : Word) : addSat 0 a = a := by
  apply BitVec.eq_of_toInt_eq
  rw [addSat_toInt, zero_toInt, Int.zero_add, saturated_of_mem _ (toInt_lower a) (toInt_upper a)]

theorem subSat_zero (a : Word) : subSat a 0 = a := by
  apply BitVec.eq_of_toInt_eq
  rw [subSat_toInt, zero_toInt, Int.sub_zero, saturated_of_mem _ (toInt_lower a) (toInt_upper a)]

/-- Settles O29: at a whole turn the sine is 0 and the cosine is 1.0, and a product with either is exact. -/
theorem parkRoundTripAtZero : Obligations.ParkRoundTripAtZero := by
  intro c al be a h
  have hpair : sincos c a = (0, ONE) := (sincosExactOnBypass c a).1 h
  simp only [hpair, parkSc, iparkSc, mul_ONE, mul_zero_word, addSat_zero, zero_addSat, subSat_zero]

end Sys2Proof.Machine
end

section
/-! The bounds of the regulators, the observer and the space-vector calculator (43_pid_slew_softstart.md,
44_pll_observer.md, 45_foc_svpwm.md) and the statements about them. -/

namespace Sys2Proof.Machine

/-! ### The PID regulator -/

/-- Settles O31, by the three places of the raw output. -/
theorem pidOutputBounded : Obligations.PidOutputBounded := by
  intro c r sp meas dt hbounds
  have horder : c.outMin.toInt ≤ c.outMax.toInt := of_decide_eq_true hbounds
  rcases lt_or_ge c.outMax.toInt (pidRaw c r sp meas dt).toInt with habove | hmax
  · rw [pid_of_above c r sp meas dt habove]
    exact ⟨horder, le_rfl⟩
  · rcases lt_or_ge (pidRaw c r sp meas dt).toInt c.outMin.toInt with hbelow | hmin
    · rw [pid_of_below c r sp meas dt hmax hbelow]
      exact ⟨le_rfl, horder⟩
    · rw [pid_of_within c r sp meas dt hmax hmin]
      exact ⟨hmin, hmax⟩

section
variable (c : PidCfg) (r : PidRegs) (sp meas dt : Word)

theorem addSat_mono_right (a b b' : Word) (h : b.toInt ≤ b'.toInt) : (addSat a b).toInt ≤ (addSat a b').toInt := by
  rw [addSat_toInt, addSat_toInt]
  exact saturated_mono _ _ (by omega)

/-- After a call that committed a grown candidate the next candidate has not shrunk: both calls add the same
increment. -/
theorem pidCandidate_grows (hgrown : r.integ.toInt < (pidCandidate c r sp meas dt).toInt) :
    (pidCandidate c r sp meas dt).toInt ≤
      (pidCandidate c ⟨pidCandidate c r sp meas dt, meas⟩ sp meas dt).toInt := by
  by_cases hdt : dt.toInt = 0
  · rw [pidCandidate, if_pos hdt] at hgrown
    exact absurd hgrown (lt_irrefl _)
  · simp only [pidCandidate, if_neg hdt, addSat_toInt] at hgrown ⊢
    unfold saturated at *
    omega

/-- A call clamped at the maximum whose candidate was committed leaves a state from which the same call clamps again and
commits nothing. -/
theorem pid_of_committed (hprev : r.prev = meas) (habove : c.outMax.toInt < (pidRaw c r sp meas dt).toInt)
    (hcommit : (pidPre c r sp meas dt).toInt < c.outMax.toInt) :
    pid c ⟨pidCandidate c r sp meas dt, meas⟩ sp meas dt = (c.outMax, ⟨pidCandidate c r sp meas dt, meas⟩) := by
  subst hprev
  have hgrown : r.integ.toInt < (pidCandidate c r sp r.prev dt).toInt := by
    by_contra hle
    have := addSat_mono_right (pidPd c r sp r.prev dt) _ _ (not_lt.mp hle)
    unfold pidRaw pidPre at *
    omega
  have hpre : pidPre c ⟨pidCandidate c r sp r.prev dt, r.prev⟩ sp r.prev dt = pidRaw c r sp r.prev dt := rfl
  have hraw : (pidRaw c r sp r.prev dt).toInt ≤
      (pidRaw c ⟨pidCandidate c r sp r.prev dt, r.prev⟩ sp r.prev dt).toInt :=
    addSat_mono_right _ _ _ (pidCandidate_grows c r sp r.prev dt hgrown)
  rw [pid_of_above _ _ _ _ _ (habove.trans_le hraw), hpre, if_neg habove.not_gt]

/-- A call clamped at the maximum that froze the integrator leaves the state it started from. -/
theorem pid_of_frozen (habove : c.outMax.toInt < (pidRaw c r sp r.prev dt).toInt)
    (hfreeze : ¬(pidPre c r sp r.prev dt).toInt < c.outMax.toInt) : pid c r sp r.prev dt = (c.outMax, r) := by
  rw [pid_of_above c r sp r.prev dt habove, if_neg hfreeze]

end

/-- Settles O32, by whether the clamped call committed its candidate; if not, the second call is the first again. -/
theorem antiWindupHolds : Obligations.AntiWindupHolds := by
  intro c r sp meas dt hprev hsum
  have habove : c.outMax.toInt < (pidRaw c r sp meas dt).toInt := hsum
  by_cases hcommit : (pidPre c r sp meas dt).toInt < c.outMax.toInt
  · rw [pid_of_above c r sp meas dt habove, if_pos hcommit, pid_of_committed c r sp meas dt hprev habove hcommit]
  · subst hprev
    have hcall := pid_of_frozen c r sp dt habove hcommit
    rw [hcall, hcall]

/-! ### The slew limiter -/

/-- The move of R153 on exact integers: up by the step or onto the target, down likewise, or none. -/
theorem slew_toInt (c : SlewCfg) (prev target dt : Word) :
    (slew c prev target dt).toInt =
      if prev.toInt < target.toInt then
        if saturated (target.toInt - prev.toInt) ≤ max 0 (mul c.up dt).toInt then target.toInt
        else saturated (prev.toInt + max 0 (mul c.up dt).toInt)
      else if target.toInt < prev.toInt then
        if saturated (-saturated (target.toInt - prev.toInt)) ≤ max 0 (mul c.dn dt).toInt then target.toInt
        else saturated (prev.toInt - max 0 (mul c.dn dt).toInt)
      else target.toInt := by
  have hd := subSat_toInt target prev
  rcases lt_trichotomy prev.toInt target.toInt with hrise | hlevel | hfall
  · rw [slew_of_rising c prev target dt (by rw [hd]; unfold saturated; omega), if_pos hrise, hd, slewBound_toInt,
      apply_ite BitVec.toInt, addSat_toInt, slewBound_toInt]
  · rw [slew_of_level c prev target dt (by rw [hd]; unfold saturated; omega), if_neg (by omega), if_neg (by omega)]
  · rw [slew_of_falling c prev target dt (by rw [hd]; unfold saturated; omega), if_neg hfall.not_gt, if_pos hfall,
      negSat_toInt, hd, slewBound_toInt, apply_ite BitVec.toInt, subSat_toInt, slewBound_toInt]

/-- Settles O34, by the direction of the move and by whether one step covers it. -/
theorem slewNeverOvershoots : Obligations.SlewNeverOvershoots := by
  intro c prev target dt
  have := toInt_lower prev
  have := toInt_upper prev
  have := toInt_lower target
  have := toInt_upper target
  simp only [slew_toInt]
  generalize (mul c.up dt).toInt = up
  generalize (mul c.dn dt).toInt = dn
  unfold saturated
  refine ⟨fun hrise => ?_, fun hfall => ?_⟩
  · split
    · split <;> omega
    · omega
  · split
    · omega
    · split
      · split <;> omega
      · omega

/-! ### The soft start -/

/-- The gain stays a fraction, whatever the gain before (R156). -/
theorem softStart_inUnit (ssRise gain : Word) (enable : Bool) (dt : Word) :
    0 ≤ (softStart ssRise gain enable dt).toInt ∧ (softStart ssRise gain enable dt).toInt ≤ 65536 := by
  cases enable with
  | false => rw [softStart_of_disabled]; decide
  | true =>
    rcases le_or_gt ssRise.toInt 0 with hnone | hrise
    · rw [softStart_of_no_rise ssRise gain dt hnone]; decide
    · rw [softStart_of_rise ssRise gain dt hrise]
      exact clamp_mem _ 0 ONE (by decide)

/-! ### The observer -/

theorem pllSpeedBelowMax_le (c : Config) (u : Word) : (pllSpeedBelowMax c u).toInt ≤ c.pllWMax.toInt := by
  unfold pllSpeedBelowMax
  split <;> omega

theorem pllSpeedClamp_le (c : Config) (u : Word) (h : c.pllWMin.toInt ≤ c.pllWMax.toInt) :
    (pllSpeedClamp c u).toInt ≤ c.pllWMax.toInt := by
  rw [pllSpeedClamp_eq]
  split
  · exact h
  · exact pllSpeedBelowMax_le c u

theorem pllSpeedClamp_ge (c : Config) (u : Word) (h : c.pllLowerClamp = true) :
    c.pllWMin.toInt ≤ (pllSpeedClamp c u).toInt := by
  rcases lt_or_ge (pllSpeedBelowMax c u).toInt c.pllWMin.toInt with hlow | hkept
  · rw [pllSpeedClamp_of_low c u h hlow]
  · rwa [pllSpeedClamp_of_kept c u (.inr hkept)]

/-- Without the lower clamp the lower bound is not read (R172). -/
theorem pllSpeedClamp_ignores_min (c : Config) (u m : Word) (h : c.pllLowerClamp = false) :
    pllSpeedClamp { c with pllWMin := m } u = pllSpeedClamp c u := by
  rw [pllSpeedClamp_of_kept c u (.inl h), pllSpeedClamp_of_kept { c with pllWMin := m } u (.inl h)]
  rfl

/-- Settles O37: speed and integrator are what their clamps answer. -/
theorem pllBounds : Obligations.PllBounds := by
  intro c p va vb ia ib
  refine ⟨fun horder => pllSpeedClamp_le c _ (of_decide_eq_true horder), fun _ hclamp => pllSpeedClamp_ge c _ hclamp,
    fun hoff m => ?ignores, fun horder => clamp_mem _ _ _ (of_decide_eq_true horder)⟩
  case ignores =>
    unfold pllStep
    simp only [pllSpeedClamp_ignores_min c _ m hoff]
    rfl

/-! ### The space-vector calculator -/

/-- A phase inside a span of at most ONE is centred without saturation and without the clip (R187). -/
theorem duty_toInt_of_linear (v m : Word) (span : Int) (hlo : m.toInt ≤ v.toInt) (hhi : v.toInt - m.toInt ≤ span)
    (hspan : span ≤ 65536) (off : Word) (hoff : off.toInt = (65536 - span) / 2) :
    (duty v m off).toInt = v.toInt - m.toInt + (65536 - span) / 2 := by
  rw [duty_toInt, saturated_of_mem (v.toInt - m.toInt) (by omega) (by omega), saturated_of_mem _ (by omega) (by omega),
    hoff]
  omega

/-- A span of at most ONE is the largest difference of two phase values. -/
theorem phaseSpan_toInt_of_linear (va vb vc : Word)
    (h : max (max va.toInt vb.toInt) vc.toInt - (phaseMin va vb vc).toInt ≤ 65536) :
    (phaseSpan va vb vc).toInt = max (max va.toInt vb.toInt) vc.toInt - (phaseMin va vb vc).toInt := by
  have hmin := phaseMin_toInt va vb vc
  rw [phaseSpan_toInt, saturated_of_mem _ (by omega) (by omega), saturated_of_mem _ (by omega) (by omega),
    saturated_of_mem _ (by omega) (by omega)]
  omega

/-- Settles O41: below saturation the largest shifted value is the span, and no duty leaves [0, ONE]. -/
theorem dutiesLinear : Obligations.DutiesLinear := by
  intro va vb vc m h hlinear
  have hmin : (phaseMin va vb vc).toInt = m := phaseMin_toInt va vb vc
  have hspan : (phaseSpan va vb vc).toInt = h - m :=
    (phaseSpan_toInt_of_linear va vb vc (by rw [hmin]; exact hlinear)).trans (by rw [hmin])
  have hoff : (dutyOffset (phaseSpan va vb vc)).toInt = (65536 - (h - m)) / 2 := by
    rw [dutyOffset_toInt _ (phaseSpan_nonneg va vb vc), hspan, min_eq_right hlinear]
  have hduty : ∀ v : Word, m ≤ v.toInt → v.toInt ≤ h →
      (duty v (phaseMin va vb vc) (dutyOffset (phaseSpan va vb vc))).toInt = v.toInt - m + (65536 - (h - m)) / 2 := by
    intro v hlo hhi
    rw [duty_toInt_of_linear v _ (h - m) (by omega) (by omega) hlinear _ hoff, hmin]
  rw [duties_eq]
  exact ⟨hduty va (by omega) (by omega), hduty vb (by omega) (by omega), hduty vc (by omega) (by omega)⟩

theorem svpwm_sector (c : Config) (al be : Word) :
    (svpwm c al be).sector = sector (iclarke al be).1 (iclarke al be).2.1 (iclarke al be).2.2 := by
  simp only [svpwm]

theorem sector_range (va vb vc : Word) : 1 ≤ (sector va vb vc).toNat ∧ (sector va vb vc).toNat ≤ 6 := by
  unfold sector sectorOfCode
  split <;> decide

theorem svpwm_sector_range (c : Config) (al be : Word) :
    1 ≤ (svpwm c al be).sector.toNat ∧ (svpwm c al be).sector.toNat ≤ 6 := by
  rw [svpwm_sector]
  exact sector_range _ _ _

/-- The times of duties in [0, ONE] are a full carrier period (R188). -/
theorem vectorTimes_range (da db dc : Int) (ha : 0 ≤ da ∧ da ≤ 65536) (hb : 0 ≤ db ∧ db ≤ 65536)
    (hc : 0 ≤ dc ∧ dc ≤ 65536) (t0 t1 t2 : Int) (ht : vectorTimes da db dc = (t0, t1, t2)) :
    0 ≤ t0 ∧ 0 ≤ t1 ∧ 0 ≤ t2 ∧ t0 + t1 + t2 = 65536 := by
  obtain ⟨lo, mid, hi, hlo, hhi, hperm, htimes⟩ := vectorTimes_sorted da db dc
  have hunit : ∀ d ∈ [lo, mid, hi], 0 ≤ d ∧ d ≤ 65536 := fun d hd => by
    obtain rfl | rfl | rfl : d = da ∨ d = db ∨ d = dc := by simpa using hperm.mem_iff.mp hd
    exacts [ha, hb, hc]
  obtain ⟨hlo0, -⟩ := hunit lo (by simp)
  obtain ⟨-, hhi1⟩ := hunit hi (by simp)
  obtain ⟨rfl, rfl, rfl⟩ : t0 = 65536 - (hi - mid) - (mid - lo) ∧ t1 = hi - mid ∧ t2 = mid - lo := by
    simpa using ht.symm.trans htimes
  omega

/-- The sample marker lies inside the carrier period (R190). -/
theorem markerFraction_range (t0 t1 t2 : Int) (h0 : 0 ≤ t0) (h1 : 0 ≤ t1) (h2 : 0 ≤ t2)
    (hsum : t0 + t1 + t2 = 65536) : 0 ≤ markerFraction t0 t1 t2 ∧ markerFraction t0 t1 t2 ≤ 65536 := by
  rcases le_or_gt t2 t1 with hge | hlt
  · rw [markerFraction_of_ge _ _ _ hge]
    omega
  · rw [markerFraction_of_lt _ _ _ hlt]
    omega

/-- A fraction of `PWM_MAX` lies between 0 and `PWM_MAX`: rounding keeps the order and both ends are exact (R189). -/
theorem mulInt_range (c : Config) (hpwm : c.pwmMaxOk = true) (f : Int) (h0 : 0 ≤ f) (h1 : f ≤ 65536) :
    inCompareRange c (mulInt f c.pwmMax.toInt) := by
  obtain ⟨hlo, hhi⟩ : 0 ≤ c.pwmMax.toInt ∧ c.pwmMax.toInt ≤ 32767 := by
    simpa [Config.pwmMaxOk] using hpwm
  have hlower : 0 ≤ rdiv (f * c.pwmMax.toInt) 65536 :=
    calc 0 = rdiv (0 * 65536) 65536 := (rdiv_mul_cancel 0 65536 (by decide)).symm
      _ ≤ rdiv (f * c.pwmMax.toInt) 65536 := rdiv_mono _ _ _ (by decide) (by simpa using Int.mul_nonneg h0 hlo)
  have hupper : rdiv (f * c.pwmMax.toInt) 65536 ≤ c.pwmMax.toInt :=
    calc rdiv (f * c.pwmMax.toInt) 65536 ≤ rdiv (c.pwmMax.toInt * 65536) 65536 :=
          rdiv_mono _ _ _ (by decide) (by nlinarith)
      _ = c.pwmMax.toInt := rdiv_mul_cancel _ _ (by decide)
  rw [inCompareRange, mulInt, sat32_toInt, saturated_of_mem _ (by omega) (by omega)]
  exact ⟨hlower, hupper⟩

/-- The outputs are a full carrier period for every voltage command (R193). -/
theorem svpwm_ok (c : Config) (al be : Word) (hpwm : c.pwmMaxOk = true) : (svpwm c al be).Ok c := by
  simp only [OutRegs.Ok, svpwm]
  right
  generalize iclarke al be = v
  obtain ⟨hda, hdb, hdc⟩ := duties_inUnit v.1 v.2.1 v.2.2
  obtain ⟨hsectorLo, hsectorHi⟩ := sector_range v.1 v.2.1 v.2.2
  generalize duties v.1 v.2.1 v.2.2 = d at hda hdb hdc ⊢
  generalize htimes : vectorTimes d.1.toInt d.2.1.toInt d.2.2.toInt = t
  obtain ⟨t0, t1, t2⟩ := t
  obtain ⟨hw0, hw1, hw2⟩ := vectorTimes_words _ _ _ hda hdb hdc _ _ _ htimes
  obtain ⟨h0, h1, h2, hsum⟩ := vectorTimes_range _ _ _ hda hdb hdc _ _ _ htimes
  obtain ⟨hmarkerLo, hmarkerHi⟩ := markerFraction_range _ _ _ h0 h1 h2 hsum
  simp only [inUnit, hw0, hw1, hw2]
  exact ⟨hda, hdb, hdc, ⟨h0, by omega⟩, ⟨h1, by omega⟩, ⟨h2, by omega⟩, hsum, hsectorLo, hsectorHi,
    mulInt_range c hpwm _ hda.1 hda.2, mulInt_range c hpwm _ hdb.1 hdb.2, mulInt_range c hpwm _ hdc.1 hdc.2,
    mulInt_range c hpwm _ hmarkerLo hmarkerHi⟩

/-- Settles O40: the zero record has sector 0, which no calculation gives. -/
theorem svpwmRanges : Obligations.SvpwmRanges := by
  intro c al be hpwm
  refine ⟨fun hzero => ?_, svpwm_ok c al be hpwm⟩
  have hsector : (svpwm c al be).sector.toNat = 0 := by rw [hzero]; rfl
  obtain ⟨hpositive, -⟩ := svpwm_sector_range c al be
  omega

end Sys2Proof.Machine
end

section
/-! The startup machine (46_startup_tick.md section 2): the update of each state as the relation its rule states, the
arrows an update can take, the selected angle, and the statement about STTICK. -/

namespace Sys2Proof.Machine

/-! ### The counter, the ramps and the handoff -/

theorem incTicks_toNat (t : Word) : (incTicks t).toNat = min 4294967295 (t.toNat + 1) := by
  have := t.isLt
  unfold incTicks
  split
  · rw [BitVec.toNat_ofNat]
    omega
  · omega

theorem incTicks_toNat_eq_ticksAfter (s : State) : (incTicks s.st.ticks).toNat = Rule.ticksAfter s := incTicks_toNat _

theorem approach_approaches (x target step : Word) : Rule.Approaches x target step (approach x target step) := by
  refine ⟨fun hbelow => ?_, fun habove => ?_, fun hequal => ?_⟩
  · simp only [approach, if_pos hbelow, ← addSat_toInt]
    split <;> omega
  · simp only [approach, if_neg habove.not_gt, if_pos habove, ← subSat_toInt]
    split <;> omega
  · simp only [approach, hequal, lt_irrefl, gt_iff_lt, if_false]

theorem handoffSignal_iff (c : Config) (w emag2 : Word) :
    handoffSignal c w emag2 = true ↔ Rule.HandoffSignal c w emag2 := by
  simp only [handoffSignal, Rule.HandoffSignal, absSat_toInt, Bool.or_eq_true, decide_eq_true_eq, gt_iff_lt]

theorem handoffTest_iff (s : State) (w emag2 : Word) : handoffTest s w emag2 = true ↔ Rule.HandsOff s w emag2 := by
  simp only [handoffTest, Rule.HandsOff, incTicks_toNat_eq_ticksAfter, handoffSignal_iff, Bool.and_eq_true,
    decide_eq_true_eq, ge_iff_le]

/-! ### The update of each state -/

theorem stAlign_isStAlign (s : State) : Rule.IsStAlign s (stAlign s) := by
  refine ⟨rfl, rfl, rfl, fun hdone => ?done, fun hwait => ?wait, fun r hr => ?frame, rfl, rfl, rfl⟩
  case done =>
    rw [← incTicks_toNat_eq_ticksAfter] at hdone
    simp [stAlign, hdone]
  case wait =>
    rw [← incTicks_toNat_eq_ticksAfter] at hwait ⊢
    simp [stAlign, hwait.not_ge]
  case frame =>
    cases r
    case idRef | iqRef | stState | stTicks | stThetaF => simp at hr
    all_goals rfl

theorem State.sameBut_startup (s : State) (d q : Word) (r : StRegs) :
    SameBut startupRegs s { s with idRef := d, iqRef := q, st := r } := by
  refine ⟨fun q hq => ?_, rfl, rfl, rfl⟩
  cases q
  case idRef | iqRef | stState | stTicks | stThetaF | stDtheta | stIqOl | stThetaBlend => simp [startupRegs] at hq
  all_goals rfl

/-- The RAMP update, by the handoff, then the timeout (R204). -/
theorem stRamp_isStRamp (s : State) (w emag2 : Word) (hst : s.st.state = .ramp) :
    Rule.IsStRamp s w emag2 (stRamp s w emag2) := by
  have hiq := approach_approaches s.st.iqOl s.cfg.stRampIqTarget s.cfg.stRampIqStep
  have hdtheta := approach_approaches s.st.dtheta s.cfg.stDthetaMax s.cfg.stDthetaSlew
  have htheta : ∃ sum, Rule.IsSum s.st.thetaF (rampAdvance s).dtheta sum ∧ Rule.IsWrapped sum (rampAdvance s).thetaF :=
    ⟨_, addSat_isSum _ _, wrap_isWrapped _⟩
  have hquarter : (asrWord s.cfg.stAlignId 2).toInt = s.cfg.stAlignId.toInt / 4 := asrWord_toInt _ 2
  have hticks := incTicks_toNat_eq_ticksAfter s
  by_cases hoff : Rule.HandsOff s w emag2
  · rw [stRamp_of_handoff s w emag2 ((handoffTest_iff s w emag2).mpr hoff)]
    exact ⟨hiq, hdtheta, htheta, fun _ => ⟨rfl, rfl, rfl⟩, fun h => absurd hoff h, fun h => absurd hoff h,
      fun h => absurd hoff h, fun _ => ⟨hquarter, rfl⟩, s.sameBut_startup _ _ _⟩
  have htest := mt (handoffTest_iff s w emag2).mp hoff
  rcases le_or_gt s.cfg.stTimeoutTicks.toNat (incTicks s.st.ticks).toNat with htime | hwait
  · rw [stRamp_of_timeout s w emag2 htest htime]
    exact ⟨hiq, hdtheta, htheta, fun h => absurd h hoff, fun _ => ⟨hticks, rfl⟩, fun _ _ => ⟨rfl, rfl, rfl⟩,
      fun _ h => absurd (hticks ▸ htime) h.not_ge, fun h => absurd rfl h, s.sameBut_startup _ _ _⟩
  · rw [stRamp_of_waiting s w emag2 htest hwait]
    exact ⟨hiq, hdtheta, htheta, fun h => absurd h hoff, fun _ => ⟨hticks, rfl⟩,
      fun _ h => absurd (hticks ▸ hwait) h.not_gt, fun _ _ => hst, fun _ => ⟨hquarter, rfl⟩, s.sameBut_startup _ _ _⟩

/-- The angle of BLEND after the forced angle `thetaF` has advanced (R205). -/
def blendAngle (c : Config) (ticks thetaF thObs : Word) : Word :=
  wrap (addSat (mul (subSat ONE (blendWeight c ticks)) thetaF) (mul (blendWeight c ticks) thObs))

theorem blendAngle_isWrapped (c : Config) (ticks thetaF thObs : Word) :
    ∃ frac wb rest p1 p2 mix : Word, IsQuotient ticks c.stBlendTicks frac ∧ wb.toInt = min 65536 frac.toInt ∧
      rest.toInt = saturated (65536 - wb.toInt) ∧ IsProduct rest thetaF p1 ∧ IsProduct wb thObs p2 ∧
      Rule.IsSum p1 p2 mix ∧ Rule.IsWrapped mix (blendAngle c ticks thetaF thObs) :=
  ⟨fromFraction ticks c.stBlendTicks, blendWeight c ticks, subSat ONE (blendWeight c ticks), _, _, _,
    div_isQuotient _ _, minW_toInt ONE _, subSat_toInt ONE _, mul_isProduct _ _, mul_isProduct _ _, addSat_isSum _ _,
    wrap_isWrapped _⟩

/-- The BLEND update field by field (R205). -/
theorem stBlend_eq (s : State) (thObs : Word) :
    stBlend s thObs =
      { s with
        idRef := approach s.idRef 0 s.cfg.stIdDecayStep
        iqRef := s.st.iqOl
        st :=
          { s.st with
            thetaF := wrap (addSat s.st.thetaF s.st.dtheta)
            ticks := incTicks s.st.ticks
            thetaBlend := blendAngle s.cfg (incTicks s.st.ticks) (wrap (addSat s.st.thetaF s.st.dtheta)) thObs
            state := if s.cfg.stBlendTicks.toNat ≤ (incTicks s.st.ticks).toNat then .run else .blend } } := by
  simp only [stBlend, blendAngle, decide_eq_true_eq, ge_iff_le]

theorem stBlend_isStBlend (s : State) (thObs : Word) : Rule.IsStBlend s thObs (stBlend s thObs) := by
  have htheta : ∃ sum, Rule.IsSum s.st.thetaF s.st.dtheta sum ∧
      Rule.IsWrapped sum (wrap (addSat s.st.thetaF s.st.dtheta)) := ⟨_, addSat_isSum _ _, wrap_isWrapped _⟩
  have hticks := incTicks_toNat_eq_ticksAfter s
  have hblend := blendAngle_isWrapped s.cfg (incTicks s.st.ticks) (wrap (addSat s.st.thetaF s.st.dtheta)) thObs
  have hdecay := approach_approaches s.idRef 0 s.cfg.stIdDecayStep
  rw [stBlend_eq]
  dsimp only [Rule.IsStBlend]
  refine ⟨htheta, hticks, hblend, hdecay, rfl, fun hdone => if_pos (hticks ▸ hdone),
    fun hwait => if_neg (hticks ▸ hwait.not_ge), fun r hr => ?frame, rfl, rfl, rfl⟩
  case frame =>
    cases r
    case idRef | iqRef | stState | stTicks | stThetaF | stThetaBlend => simp at hr
    all_goals rfl

/-! ### The update by the state on entry -/

section
variable (s : State) (w emag2 thObs : Word)

theorem stUpdate_of_stop (h : s.st.state = .stop) : stUpdate s w emag2 thObs = s := by
  simp only [stUpdate, h]

theorem stUpdate_of_align (h : s.st.state = .align) : stUpdate s w emag2 thObs = stAlign s := by
  simp only [stUpdate, h]

theorem stUpdate_of_ramp (h : s.st.state = .ramp) : stUpdate s w emag2 thObs = stRamp s w emag2 := by
  simp only [stUpdate, h]

theorem stUpdate_of_blend (h : s.st.state = .blend) : stUpdate s w emag2 thObs = stBlend s thObs := by
  simp only [stUpdate, h]

theorem stUpdate_of_run (h : s.st.state = .run) : stUpdate s w emag2 thObs = s := by
  simp only [stUpdate, h]

theorem stUpdate_of_fail (h : s.st.state = .fail) : stUpdate s w emag2 thObs = { s with idRef := 0, iqRef := 0 } := by
  simp only [stUpdate, h]

theorem stUpdate_isStUpdate : Rule.IsStUpdate s w emag2 thObs (stUpdate s w emag2 thObs) := by
  refine ⟨fun h => ?stop, fun h => ?align, fun h => ?ramp, fun h => ?blend, fun h => ?run, fun h => ?fail⟩
  case stop => rw [stUpdate_of_stop _ _ _ _ h]; exact SameBut.refl s
  case align => rw [stUpdate_of_align _ _ _ _ h]; exact stAlign_isStAlign s
  case ramp => rw [stUpdate_of_ramp _ _ _ _ h]; exact stRamp_isStRamp s w emag2 h
  case blend => rw [stUpdate_of_blend _ _ _ _ h]; exact stBlend_isStBlend s thObs
  case run => rw [stUpdate_of_run _ _ _ _ h]; exact SameBut.refl s
  case fail => rw [stUpdate_of_fail _ _ _ _ h]; exact ⟨rfl, rfl, s.sameBut_refs 0 0⟩

/-- An update keeps the startup state or takes a forward arrow (R215). -/
theorem stUpdate_arrow : (stUpdate s w emag2 thObs).st.state = s.st.state ∨
    (s.st.state, (stUpdate s w emag2 thObs).st.state) ∈ Rule.forwardArrows := by
  cases h : s.st.state with
  | stop => rw [stUpdate_of_stop _ _ _ _ h]; exact .inl h
  | run => rw [stUpdate_of_run _ _ _ _ h]; exact .inl h
  | fail => rw [stUpdate_of_fail _ _ _ _ h]; exact .inl h
  | align =>
    rw [stUpdate_of_align _ _ _ _ h]
    simp only [stAlign]
    split
    · exact .inr (by decide)
    · exact .inl rfl
  | ramp =>
    rw [stUpdate_of_ramp _ _ _ _ h]
    by_cases hoff : handoffTest s w emag2 = true
    · rw [stRamp_of_handoff _ _ _ hoff]
      exact .inr (show (StState.ramp, StState.blend) ∈ Rule.forwardArrows by decide)
    · rcases le_or_gt s.cfg.stTimeoutTicks.toNat (incTicks s.st.ticks).toNat with htime | hwait
      · rw [stRamp_of_timeout _ _ _ hoff htime]
        exact .inr (show (StState.ramp, StState.fail) ∈ Rule.forwardArrows by decide)
      · rw [stRamp_of_waiting _ _ _ hoff hwait]
        exact .inl h
  | blend =>
    rw [stUpdate_of_blend _ _ _ _ h]
    simp only [stBlend]
    split
    · exact .inr (by decide)
    · exact .inl rfl

end

/-! ### The selected angle and the statement -/

/-- The angle is selected by the state after the update (R209). -/
theorem angleSelect_isAngle (s : State) (thObs : Word) : Rule.IsAngle s thObs (angleSelect s thObs) := by
  cases h : s.st.state <;> cases hfeeds : s.cfg.blendFeedsFoc <;> simp [Rule.IsAngle, angleSelect, h, hfeeds]

/-- Settles O44: STTICK is one update, then one write to rd. -/
theorem sttickUpdatesStartup : Obligations.SttickUpdatesStartup := by
  intro s rd rs1 rs2 rs3
  exact ⟨⟨rfl, rfl⟩, _, _, _, exec_sttick rd rs1 rs2 rs3 s, stUpdate_isStUpdate s _ _ _, angleSelect_isAngle _ _,
    State.getX_setX_self _ _ _, State.sameBut_setX _ _ _⟩

end Sys2Proof.Machine
end

section
/-! The control tick (46_startup_tick.md section 3): the observer half as the relation of its rule, what each end of a
tick leaves, and the statements about TICK. -/

namespace Sys2Proof.Machine

/-! ### The observer half -/

theorem State.sameBut_observe (s : State) (v : Word) (p : PllRegs) :
    SameBut (.focVbus :: .pllTheta :: pllStepRegs) s { s with foc := { s.foc with vbus := v }, pll := p } := by
  refine ⟨fun r hr => ?_, rfl, rfl, rfl⟩
  cases r
  case focVbus | pllTheta | pllOmega | pllInteg | pllIaPrev | pllIbPrev | pllDiaF | pllDibF | pllEa | pllEb |
      pllEmag2 | pllErr => simp [pllStepRegs] at hr
  all_goals rfl

/-- The observer's record of a tick before the angle advances (R212). -/
def State.pllStepped (s : State) : PllRegs :=
  pllStep s.cfg s.pll (clarke s.inp.va s.inp.vb).1 (clarke s.inp.va s.inp.vb).2 (clarke s.inp.ia s.inp.ib).1
    (clarke s.inp.ia s.inp.ib).2

theorem tickObserve_eq (s : State) :
    tickObserve s =
      { s with
        foc := { s.foc with vbus := s.inp.vbus }
        pll := { s.pllStepped with
          theta := wrap (addSat s.pllStepped.theta (mul s.pllStepped.omega s.cfg.ts)) } } := rfl

theorem tickObserve_isObserved (s : State) : Rule.IsObserved s (tickObserve s) := by
  rw [tickObserve_eq]
  exact ⟨⟨_, _, _, _, _, _, s.pllStepped, clarke_isClarke _ _, clarke_isClarke _ _, pllStep_isPllStep _ _ _ _ _ _,
    mul_isProduct _ _, addSat_isSum _ _, wrap_isWrapped _, rfl⟩, rfl, s.sameBut_observe _ _⟩

theorem sameBut_tickObserve (s : State) : SameBut (.focVbus :: .pllTheta :: pllStepRegs) s (tickObserve s) :=
  (tickObserve_eq s) ▸ s.sameBut_observe _ _

theorem sameBut_stUpdate (s : State) (w emag2 thObs : Word) : SameBut startupRegs s (stUpdate s w emag2 thObs) := by
  obtain ⟨d, q, r, h⟩ := stUpdate_eq s w emag2 thObs
  rw [h]
  exact s.sameBut_startup d q r

/-- The registers a tick's pipeline may change up to the update of the startup machine. -/
def tickUpdatedRegs : List Reg := startupRegs ++ .focVbus :: .pllTheta :: pllStepRegs

theorem sameBut_tickUpdated (s : State) : SameBut tickUpdatedRegs s s.tickUpdated :=
  (sameBut_tickObserve s).trans (sameBut_stUpdate _ _ _ _)

/-! ### The two ends of the pipeline -/

theorem State.sameBut_safeStopEntry (s : State) : SameBut (.status :: outRegs) s s.safeStopEntry :=
  (s.sameBut_out _).trans (s.zeroOutputs.sameBut_status _)

theorem State.get_safeStopEntry_of_mem (s : State) {r : Reg} (hr : r ∈ outRegs) : s.safeStopEntry.get r = 0 := by
  have hstatus : ∀ q ∈ outRegs, q ∉ [Reg.status] := by decide
  exact ((s.zeroOutputs.sameBut_status _).get_eq (hstatus r hr)).trans (s.get_zeroOutputs_of_mem hr)

theorem sameBut_tickDriven (s : State) : SameBut (focStepRegs ++ outRegs) s.tickUpdated s.tickDriven := by
  have hloop : SameBut focStepRegs s.tickUpdated s.tickLoop := State.sameBut_focStep _ _ _ _
  have hout : SameBut outRegs s.tickLoop s.tickDriven := State.sameBut_out _ _
  exact (hloop.trans hout).mono List.perm_append_comm.subset

/-- The step's relation does not speak of the outputs, so the SVPWM stage may still write them. -/
theorem isFocStep_out {s t : State} {ia ib theta : Word} (h : Rule.IsFocStep s ia ib theta t) (o : OutRegs) :
    Rule.IsFocStep s ia ib theta { t with out := o } := h

theorem tickDriven_isFocStep (s : State) :
    Rule.IsFocStep s.tickUpdated s.inp.ia s.inp.ib (angleSelect s.tickUpdated (tickObserve s).pll.theta)
      s.tickDriven :=
  isFocStep_out (focStep_isFocStep s.tickUpdated _ _ _) _

theorem tickDriven_isSvpwm (s : State) :
    Rule.IsSvpwm s.cfg s.tickDriven.foc.valpha s.tickDriven.foc.vbeta s.tickDriven.out := by
  obtain ⟨-, hupdated, -⟩ := sameBut_tickUpdated s
  obtain ⟨-, hloop, -⟩ : SameBut focStepRegs s.tickUpdated s.tickLoop := State.sameBut_focStep _ _ _ _
  have hcfg : s.tickLoop.cfg = s.cfg := hloop.trans hupdated
  rw [← hcfg]
  exact svpwm_isSvpwm _ _ _

/-! ### STATUS and the startup state after the pipeline -/

theorem status_tickUpdated (s : State) : s.tickUpdated.status = s.status :=
  (sameBut_tickUpdated s).get_eq (r := .status) (by decide)

theorem status_tickDriven (s : State) : s.tickDriven.status = s.status :=
  ((sameBut_tickDriven s).get_eq (r := .status) (by decide)).trans (status_tickUpdated s)

theorem st_tickDriven (s : State) : s.tickDriven.st = s.tickUpdated.st := by
  simp only [State.tickDriven, State.tickLoop, focStep]

/-- STOP is entered by no update. -/
theorem tickUpdated_ne_stop (s : State) (h : s.st.state ≠ .stop) : s.tickUpdated.st.state ≠ .stop := by
  intro hstop
  have hentry : (tickObserve s).st.state = s.st.state := rfl
  have harrow := stUpdate_arrow (tickObserve s) (tickObserve s).pll.omega (tickObserve s).pll.emag2
    (tickObserve s).pll.theta
  rw [← State.tickUpdated, hstop, hentry] at harrow
  rcases harrow with hsame | hforward
  · exact h hsame.symm
  · simp [Rule.forwardArrows] at hforward

/-- A tick sets bits 0 and 1 of STATUS on a trip, bit 1 on the way to FAIL and in it, and no bit otherwise. -/
theorem status_tick (s : State) :
    (tick s).status = s.status ∨ (tick s).status = s.status ||| 2#32 ∨ (tick s).status = s.status ||| 3#32 := by
  have h := tick_ends s
  generalize tick s = t at h ⊢
  cases h with
  | trips => exact .inr (.inr (congrArg State.status s.overCurrentEntry_eq))
  | stopped => exact .inl rfl
  | failed => exact .inr (.inl rfl)
  | timesOut =>
    refine .inr (.inl ?_)
    rw [← status_tickUpdated s]
    rfl
  | drives => exact .inl (status_tickDriven s)

/-! ### The pipeline -/

/-- Settles O47: the pipeline's three stages are those of the rule, and its two ends are the safe stop and the current
loop. -/
theorem tickRunsThePipeline : Obligations.TickRunsThePipeline := by
  intro s hoc hcode0 hcode5
  have hstop : s.st.state ≠ .stop := fun h => hcode0 ((StState.code_eq_zero_iff _).mpr h)
  have hfail : s.st.state ≠ .fail := fun h => hcode5 ((StState.code_eq_five_iff _).mpr h)
  refine ⟨tickObserve s, s.tickUpdated, tickPipeline s, _, ?exec, tickObserve_isObserved s,
    stUpdate_isStUpdate (tickObserve s) _ _ _, angleSelect_isAngle _ _, fun hreached => ?timesOut,
    fun hreached => ?drives⟩
  case exec => rw [exec_tick, tick_of_active s hoc hstop hfail]
  case timesOut =>
    rw [tickPipeline_eq, if_pos ((StState.code_eq_five_iff _).mp hreached)]
    refine ⟨fun r hr => s.tickUpdated.get_safeStopEntry_of_mem hr, ?_, s.tickUpdated.sameBut_safeStopEntry⟩
    change s.tickUpdated.status ||| 2#32 = s.status ||| 2#32
    rw [status_tickUpdated]
  case drives =>
    rw [tickPipeline_eq, if_neg (mt (StState.code_eq_five_iff _).mpr hreached)]
    exact ⟨tickDriven_isFocStep s, tickDriven_isSvpwm s, sameBut_tickDriven s⟩

/-! ### The frame -/

/-- A tick writes STATUS and the registers that REINIT zeroes, and no other (R210). -/
theorem sameBut_tick (s : State) : SameBut (.status :: reinitRegs) s (tick s) := by
  have h := tick_ends s
  generalize tick s = t at h ⊢
  cases h with
  | trips => exact s.sameBut_overCurrentEntry
  | stopped => exact (s.sameBut_out _).mono (by decide)
  | failed =>
    have hrefs := (s.sameBut_out .zero).trans (s.zeroOutputs.sameBut_refs 0 0)
    exact (hrefs.trans (State.sameBut_status _ _)).mono (by decide)
  | timesOut => exact ((sameBut_tickUpdated s).trans (State.sameBut_safeStopEntry _)).mono (by decide)
  | drives => exact ((sameBut_tickUpdated s).trans (sameBut_tickDriven s)).mono (by decide)

/-- An update neither reads nor writes a general register. -/
theorem stUpdate_setX (s : State) (n : RegIdx) (v w emag2 thObs : Word) :
    stUpdate (s.setX n v) w emag2 thObs = (stUpdate s w emag2 thObs).setX n v := by
  cases h : s.st.state with
  | stop => rw [stUpdate_of_stop s _ _ _ h, stUpdate_of_stop (s.setX n v) _ _ _ h]
  | align => rw [stUpdate_of_align s _ _ _ h, stUpdate_of_align (s.setX n v) _ _ _ h]; rfl
  | blend => rw [stUpdate_of_blend s _ _ _ h, stUpdate_of_blend (s.setX n v) _ _ _ h, stBlend_eq, stBlend_eq]; rfl
  | run => rw [stUpdate_of_run s _ _ _ h, stUpdate_of_run (s.setX n v) _ _ _ h]
  | fail => rw [stUpdate_of_fail s _ _ _ h, stUpdate_of_fail (s.setX n v) _ _ _ h]; rfl
  | ramp =>
    rw [stUpdate_of_ramp s _ _ _ h, stUpdate_of_ramp (s.setX n v) _ _ _ h]
    by_cases hoff : handoffTest s w emag2 = true
    · rw [stRamp_of_handoff s w emag2 hoff, stRamp_of_handoff (s.setX n v) w emag2 hoff]
      rfl
    · rcases le_or_gt s.cfg.stTimeoutTicks.toNat (incTicks s.st.ticks).toNat with htime | hwait
      · rw [stRamp_of_timeout s w emag2 hoff htime, stRamp_of_timeout (s.setX n v) w emag2 hoff htime]
        rfl
      · rw [stRamp_of_waiting s w emag2 hoff hwait, stRamp_of_waiting (s.setX n v) w emag2 hoff hwait]
        rfl

theorem tickObserve_setX (s : State) (n : RegIdx) (v : Word) :
    tickObserve (s.setX n v) = (tickObserve s).setX n v := rfl

theorem tickUpdated_setX (s : State) (n : RegIdx) (v : Word) :
    (s.setX n v).tickUpdated = s.tickUpdated.setX n v := by
  rw [State.tickUpdated, tickObserve_setX, stUpdate_setX]
  rfl

theorem focStep_setX (s : State) (n : RegIdx) (v ia ib theta : Word) :
    focStep (s.setX n v) ia ib theta = (focStep s ia ib theta).setX n v := by
  simp only [focStep, State.setX]

theorem tickLoop_setX (s : State) (n : RegIdx) (v : Word) : (s.setX n v).tickLoop = s.tickLoop.setX n v := by
  have hangle : angleSelect (s.tickUpdated.setX n v) (tickObserve s).pll.theta =
      angleSelect s.tickUpdated (tickObserve s).pll.theta := rfl
  rw [State.tickLoop, tickUpdated_setX, tickObserve_setX, focStep_setX, State.pll_setX, hangle, State.inp_setX,
    State.tickLoop]

theorem tickDriven_setX (s : State) (n : RegIdx) (v : Word) : (s.setX n v).tickDriven = s.tickDriven.setX n v := by
  rw [State.tickDriven, tickLoop_setX, State.cfg_setX, State.foc_setX]
  rfl

theorem tickPipeline_setX (s : State) (n : RegIdx) (v : Word) :
    tickPipeline (s.setX n v) = (tickPipeline s).setX n v := by
  rw [tickPipeline_eq, tickPipeline_eq, tickUpdated_setX, State.st_setX]
  by_cases hfail : s.tickUpdated.st.state = .fail
  · rw [if_pos hfail, if_pos hfail]
    rfl
  · rw [if_neg hfail, if_neg hfail, tickDriven_setX]

/-- A tick neither reads nor writes a general register (R210). -/
theorem tick_setX (s : State) (n : RegIdx) (v : Word) : tick (s.setX n v) = (tick s).setX n v := by
  by_cases hoc : s.PhaseOverCurrent
  · rw [tick_of_phaseOverCurrent s hoc, tick_of_phaseOverCurrent (s.setX n v) hoc]
    rfl
  by_cases hstop : s.st.state = .stop
  · rw [tick_of_stop s hoc hstop, tick_of_stop (s.setX n v) hoc hstop]
    rfl
  by_cases hfail : s.st.state = .fail
  · rw [tick_of_fail s hoc hfail, tick_of_fail (s.setX n v) hoc hfail]
    rfl
  rw [tick_of_active s hoc hstop hfail, tick_of_active (s.setX n v) hoc hstop hfail, tickPipeline_setX]

/-- Bits 0 and 1 lie outside the mask (R211, R213). -/
theorem and_mask_or_low (x : Word) (low : Word) (h : low &&& 0xFFFFFFFC#32 = 0#32) :
    (x ||| low) &&& 0xFFFFFFFC#32 = x &&& 0xFFFFFFFC#32 := by
  rw [BitVec.and_or_distrib_right, h, BitVec.or_zero]

/-- Settles O48. -/
theorem tickFrame : Obligations.TickFrame := by
  intro s
  refine ⟨tick s, exec_tick s, sameBut_tick s, ?_, fun n v => by rw [exec_tick, tick_setX]⟩
  change (tick s).status &&& 0xFFFFFFFC#32 = s.status &&& 0xFFFFFFFC#32
  rcases status_tick s with h | h | h
  · rw [h]
  · rw [h, and_mask_or_low _ _ (by decide)]
  · rw [h, and_mask_or_low _ _ (by decide)]

/-! ### The safe stop -/

theorem statusBit_setBit_self (status : Word) (c : Cond) : statusBit (setBit status c) c = true := by
  have hmask : (status ||| c.mask) &&& c.mask = c.mask := by
    ext i hi
    simpa using fun h => .inr h
  rw [statusBit, setBit, hmask]
  cases c <;> rfl

/-- Settles O49: the safe stop is the entry to it, and neither STOP nor FAIL is left by the whole pipeline. -/
theorem faultsEndInSafeStop : Obligations.FaultsEndInSafeStop := by
  intro s
  refine ⟨tick s, exec_tick s, ?_⟩
  have h := tick_ends s
  generalize tick s = t at h ⊢
  cases h with
  | trips =>
    have hsafe : s.overCurrentEntry.SafeStop := ⟨⟨rfl, rfl, rfl, rfl⟩, statusBit_setBit_self _ _⟩
    exact ⟨fun _ => hsafe.1, fun _ => hsafe, fun _ => hsafe⟩
  | stopped hoc hst =>
    exact ⟨fun _ => ⟨rfl, rfl, rfl, rfl⟩, fun hfail => absurd (hst.symm.trans hfail) (by decide), fun h => absurd h hoc⟩
  | failed hoc hst =>
    exact ⟨fun _ => ⟨rfl, rfl, rfl, rfl⟩, fun _ => ⟨⟨rfl, rfl, rfl, rfl⟩, statusBit_setBit_self _ _⟩,
      fun h => absurd h hoc⟩
  | timesOut hoc hfail =>
    exact ⟨fun _ => ⟨rfl, rfl, rfl, rfl⟩, fun _ => ⟨⟨rfl, rfl, rfl, rfl⟩, statusBit_setBit_self _ _⟩,
      fun h => absurd h hoc⟩
  | drives hoc hstop hfail =>
    rw [st_tickDriven]
    exact ⟨fun h => absurd h (tickUpdated_ne_stop s hstop), fun h => absurd h hfail, fun h => absurd h hoc⟩

end Sys2Proof.Machine
end

section
/-! The calibrator (47_adc_calibrator.md): the frame of a write to its record, the two cases of its update, and the
statements about CALINIT and CALUPD. -/

namespace Sys2Proof.Machine

theorem State.sameBut_cal (s : State) (r : CalRegs) :
    SameBut [.calVref, .calAlpha, .calVpc, .calValid] s { s with cal := r } := by
  refine ⟨fun q hq => ?_, rfl, rfl, rfl⟩
  cases q
  case calVref | calAlpha | calVpc | calValid => simp at hq
  all_goals rfl

/-- Settles O50: the nominal estimate is one saturated `rdiv`, a full scale of 0 included. -/
theorem calinitStarts : Obligations.CalinitStarts := by
  intro s rs1 rs2
  exact ⟨⟨rfl, rfl⟩, _, exec_calinit rs1 rs2 s, rfl, rfl, rfl, sat32_rdiv_isRounded _ _, s.sameBut_cal _⟩

theorem calUpdate_of_skipped (c : Config) (r : CalRegs) (raw : Word) (h : raw.toInt ≤ 0) : calUpdate c r raw = r :=
  if_pos h

theorem calUpdate_of_positive (c : Config) (r : CalRegs) (raw : Word) (h : 0 < raw.toInt) :
    calUpdate c r raw =
      { r with
        vpc := addSat (mul (subSat ONE r.alpha) r.vpc) (mul r.alpha (calInstant c r.vref raw))
        valid := 1 } := if_neg h.not_ge

/-- An update keeps the operands of CALINIT. -/
theorem sameBut_calUpdate (s : State) (raw : Word) :
    SameBut [.calVpc, .calValid] s { s with cal := calUpdate s.cfg s.cal raw } := by
  rcases le_or_gt raw.toInt 0 with hskip | hpos
  · rw [calUpdate_of_skipped _ _ _ hskip]
    exact (SameBut.refl s).mono (List.nil_subset _)
  · rw [calUpdate_of_positive _ _ _ hpos]
    refine ⟨fun q hq => ?_, rfl, rfl, rfl⟩
    cases q
    case calVpc | calValid => simp at hq
    all_goals rfl

/-- Settles O51, by the sign of the count. -/
theorem calupdBlends : Obligations.CalupdBlends := by
  intro s rs1
  refine ⟨⟨rfl, rfl⟩, _, exec_calupd rs1 s, fun hskip => ?skip, fun hpos => ?valid, fun hpos => ?blend,
    sameBut_calUpdate s _⟩
  case skip =>
    rw [calUpdate_of_skipped _ _ _ hskip]
    exact SameBut.refl s
  case valid =>
    rw [calUpdate_of_positive _ _ _ hpos]
    rfl
  case blend =>
    rw [calUpdate_of_positive _ _ _ hpos]
    exact ⟨_, calInstant s.cfg s.cal.vref (s.getX rs1), _, _, _, rdiv_roundsTo _ _ hpos.ne', sat32_rdiv_isRounded _ _,
      subSat_toInt ONE _, mul_isProduct _ _, mul_isProduct _ _, addSat_isSum _ _⟩

end Sys2Proof.Machine
end

section
/-! What a command can do to one part of the state (R83): to STATUS, the outputs, the soft-start gain, the startup
record and CAL_VALID. The rules of the whole machine follow from these. -/

namespace Sys2Proof.Machine

/-! ### What a command can do to a part of the state -/

theorem status_stUpdate (s : State) (w emag2 thObs : Word) : (stUpdate s w emag2 thObs).status = s.status := by
  obtain ⟨d, q, r, h⟩ := stUpdate_eq s w emag2 thObs
  rw [h]

theorem out_stUpdate (s : State) (w emag2 thObs : Word) : (stUpdate s w emag2 thObs).out = s.out := by
  obtain ⟨d, q, r, h⟩ := stUpdate_eq s w emag2 thObs
  rw [h]

theorem ssGain_stUpdate (s : State) (w emag2 thObs : Word) : (stUpdate s w emag2 thObs).ssGain = s.ssGain := by
  obtain ⟨d, q, r, h⟩ := stUpdate_eq s w emag2 thObs
  rw [h]

/-- STATUS after a command: bits 0 and 1 set by a tick or cleared by STINIT, bits 2 and 3 cleared by CLRSTAT (R27). -/
theorem CommandEffect.status {i : Instr} {s t : State} (h : CommandEffect s i t) :
    t.status = s.status ∨ t.status = s.status ||| 2#32 ∨ t.status = s.status ||| 3#32 ∨
      (i = .stinit ∧ t.status = s.status &&& 0xFFFFFFFC#32) ∨
      (i = .clrstat ∧ t.status = s.status &&& 0xFFFFFFF3#32) := by
  cases h with
  | sttick => exact .inl (status_stUpdate s _ _ _)
  | tick =>
    rcases status_tick s with h | h | h
    · exact .inl h
    · exact .inr (.inl h)
    · exact .inr (.inr (.inl h))
  | stinit => exact .inr (.inr (.inr (.inl ⟨rfl, congrArg State.status s.stinit_eq⟩)))
  | clrstat => exact .inr (.inr (.inr (.inr ⟨rfl, rfl⟩)))
  | _ => exact .inl rfl

/-- The outputs after a tick: kept, zeroed or calculated. -/
theorem out_tick (s : State) :
    (tick s).out = s.out ∨ (tick s).out = .zero ∨ ∃ al be, (tick s).out = svpwm s.cfg al be := by
  have h := tick_ends s
  generalize tick s = t at h ⊢
  cases h with
  | trips | stopped | failed | timesOut => exact .inr (.inl rfl)
  | drives =>
    obtain ⟨-, hcfg, -⟩ := (sameBut_tickUpdated s).trans (s.tickUpdated.sameBut_focStep s.inp.ia s.inp.ib
      (angleSelect s.tickUpdated (tickObserve s).pll.theta))
    exact .inr (.inr ⟨_, _, congrArg (svpwm · _ _) hcfg⟩)

theorem CommandEffect.out {i : Instr} {s t : State} (h : CommandEffect s i t) :
    t.out = s.out ∨ t.out = .zero ∨ ∃ al be, t.out = Machine.svpwm s.cfg al be := by
  cases h with
  | sttick => exact .inl (out_stUpdate s _ _ _)
  | tick => exact out_tick s
  | svpwm al be => exact .inr (.inr ⟨al, be, rfl⟩)
  | stinit | reinit => exact .inr (.inl rfl)
  | _ => exact .inl rfl

theorem ssGain_focStep (s : State) (ia ib theta : Word) :
    (focStep s ia ib theta).ssGain = softStart s.cfg.ssRise s.ssGain true s.cfg.ts := by
  simp only [focStep]

theorem ssGain_tickDriven (s : State) :
    s.tickDriven.ssGain = softStart s.tickUpdated.cfg.ssRise s.tickUpdated.ssGain true s.tickUpdated.cfg.ts := by
  simp only [State.tickDriven, State.tickLoop, focStep]

/-- The gain after a tick: kept, zeroed or one soft-start step. -/
theorem ssGain_tick (s : State) :
    (tick s).ssGain = s.ssGain ∨ (tick s).ssGain = 0 ∨
      ∃ rise gain enable dt, (tick s).ssGain = softStart rise gain enable dt := by
  have hupdated : s.tickUpdated.ssGain = s.ssGain := ssGain_stUpdate (tickObserve s) _ _ _
  have h := tick_ends s
  generalize tick s = t at h ⊢
  cases h with
  | trips => exact .inr (.inl rfl)
  | stopped | failed => exact .inl rfl
  | timesOut => exact .inl hupdated
  | drives => exact .inr (.inr ⟨_, _, _, _, ssGain_tickDriven s⟩)

theorem CommandEffect.ssGain {i : Instr} {s t : State} (h : CommandEffect s i t) :
    t.ssGain = s.ssGain ∨ t.ssGain = 0 ∨ ∃ rise gain enable dt, t.ssGain = softStart rise gain enable dt := by
  cases h with
  | sttick => exact .inl (ssGain_stUpdate s _ _ _)
  | tick => exact ssGain_tick s
  | sstep => exact .inr (.inr ⟨_, _, _, _, rfl⟩)
  | focstep ia ib theta => exact .inr (.inr ⟨_, _, _, _, ssGain_focStep s ia ib theta⟩)
  | stinit | reinit => exact .inr (.inl rfl)
  | _ => exact .inl rfl

/-- The startup record after a tick: zeroed on a trip, else kept or updated once from the record on entry. -/
theorem st_tick (s : State) :
    (s.PhaseOverCurrent ∧ (tick s).st = .zero) ∨ (tick s).st = s.st ∨ (tick s).st = s.tickUpdated.st := by
  have h := tick_ends s
  generalize tick s = t at h ⊢
  cases h with
  | trips hoc => exact .inl ⟨hoc, rfl⟩
  | stopped | failed => exact .inr (.inl rfl)
  | timesOut => exact .inr (.inr rfl)
  | drives => exact .inr (.inr (st_tickDriven s))

/-- The startup record after a command: zeroed by REINIT or a trip, zeroed into ALIGN by STINIT, else kept or updated
once from a state with the same record and parameters. -/
theorem CommandEffect.st {i : Instr} {s t : State} (h : CommandEffect s i t) :
    (t.st = .zero ∧ (i = .reinit ∨ i = .tick ∧ s.PhaseOverCurrent)) ∨
      (i = .stinit ∧ t.st = { StRegs.zero with state := .align }) ∨ t.st = s.st ∨
      ∃ u w emag2 thObs, u.st = s.st ∧ u.cfg = s.cfg ∧ t.st = (stUpdate u w emag2 thObs).st := by
  cases h with
  | sttick w emag2 thObs => exact .inr (.inr (.inr ⟨s, w, emag2, thObs, rfl, rfl, rfl⟩))
  | tick =>
    rcases st_tick s with ⟨hoc, hzero⟩ | hkept | hupdated
    · exact .inl ⟨hzero, .inr ⟨rfl, hoc⟩⟩
    · exact .inr (.inr (.inl hkept))
    · exact .inr (.inr (.inr ⟨tickObserve s, _, _, _, rfl, rfl, hupdated⟩))
  | stinit => exact .inr (.inl ⟨rfl, rfl⟩)
  | reinit => exact .inl ⟨rfl, .inl rfl⟩
  | _ => exact .inr (.inr (.inl rfl))

/-- CAL_VALID after a command is 0 or 1, or it is kept (R230, R231). -/
theorem CommandEffect.calValid {i : Instr} {s t : State} (h : CommandEffect s i t) :
    t.cal.valid = s.cal.valid ∨ t.cal.valid = 0 ∨ t.cal.valid = 1 := by
  cases h with
  | sttick => exact .inl (congrArg CalRegs.valid (cal_stUpdate s _ _ _))
  | tick => exact .inl (congrArg CalRegs.valid (cal_tick s))
  | calinit => exact .inr (.inl rfl)
  | calupd raw =>
    rcases le_or_gt raw.toInt 0 with hskip | hpos
    · exact .inl (congrArg CalRegs.valid (calUpdate_of_skipped _ _ _ hskip))
    · exact .inr (.inr (congrArg CalRegs.valid (calUpdate_of_positive _ _ _ hpos)))
  | _ => exact .inl rfl

end Sys2Proof.Machine
end

section
/-! The rules of the whole machine: one induction step for every predicate of the state, the three invariants over every
step and at reset, the arrows of the startup state and the sticky bits of STATUS. -/

namespace Sys2Proof.Machine

/-! ### What every step keeps -/

/-- A predicate is kept by every step when each kind of event keeps it: the event leaving the list, reset, a read's
answer, a raised ILL or ACC, a store and a command. -/
theorem step_keeps {P : State → Prop} (hport : ∀ s rest, P s → P { s with port := rest })
    (hreset : ∀ s, P s → P s.resetEvent) (hread : ∀ s v, P s → P { s with rdData := v })
    (hraise : ∀ s c, P s → P (s.raise c)) (hstore : ∀ s r v, P s → P (s.hostStore r v))
    (hexec : ∀ i s t, CommandEffect s i t → P s → P t) (s t : State) (hs : P s) (h : step s = .next t) : P t := by
  obtain ⟨-, rfl⟩ | ⟨e, rest, -, hevent⟩ := step_cases s t h
  · exact hs
  have hs' := hport s rest hs
  obtain ⟨-, rfl⟩ | ⟨idx, -, rfl⟩ | ⟨_, _, -, rfl⟩ | ⟨_, v, r, -, -, -, -, rfl⟩ | ⟨_, v, _, -, -, -, rfl⟩ |
    ⟨_, v, i, -, -, -, hcommand⟩ := State.portEvent_cases _ _ _ hevent
  · exact hreset _ hs'
  · unfold State.hostRd
    split
    · exact hread _ _ (hraise _ _ hs')
    · exact hread _ _ hs'
  · exact hraise _ _ hs'
  · exact hstore _ _ _ hs'
  · exact hraise _ _ (hstore _ .cmd v hs')
  · exact hexec i _ _ (effect_of_exec hcommand) (hstore _ .cmd v hs')

/-! ### Reserved values -/

theorem StState.code_lt (st : StState) : st.code.toNat < 6 := by
  cases st <;> decide

theorem State.reservedOk_iff (s : State) :
    s.ReservedOk ↔ s.status.toNat < 16 ∧ s.cal.valid.toNat < 2 ∧ s.out.sector.toNat < 7 :=
  ⟨fun ⟨hstatus, hvalid, _, hsector⟩ => ⟨hstatus, hvalid, hsector⟩,
    fun ⟨hstatus, hvalid, hsector⟩ => ⟨hstatus, hvalid, s.st.state.code_lt, hsector⟩⟩

theorem State.reservedOk_of_zero (s : State) (hstatus : s.status = 0) (hvalid : s.cal.valid = 0)
    (hsector : s.out.sector = 0) : s.ReservedOk := by
  rw [State.reservedOk_iff, hstatus, hvalid, hsector]
  decide

theorem or_lt_sixteen (a b : Word) (ha : a.toNat < 16) (hb : b.toNat < 16) : (a ||| b).toNat < 16 := by
  rw [BitVec.toNat_or]
  exact Nat.or_lt_two_pow (n := 4) ha hb

theorem and_lt_sixteen (a b : Word) (ha : a.toNat < 16) : (a &&& b).toNat < 16 := by
  rw [BitVec.toNat_and]
  exact Nat.and_le_left.trans_lt ha

theorem Cond.mask_lt (c : Cond) : c.mask.toNat < 16 := by
  cases c <;> decide

/-- A command keeps STATUS below 16 (R26). -/
theorem CommandEffect.status_lt {i : Instr} {s t : State} (h : CommandEffect s i t) (hs : s.status.toNat < 16) :
    t.status.toNat < 16 := by
  rcases h.status with hst | hst | hst | ⟨-, hst⟩ | ⟨-, hst⟩ <;> rw [hst]
  · exact hs
  · exact or_lt_sixteen _ _ hs (by decide)
  · exact or_lt_sixteen _ _ hs (by decide)
  · exact and_lt_sixteen _ _ hs
  · exact and_lt_sixteen _ _ hs

theorem CommandEffect.calValid_lt {i : Instr} {s t : State} (h : CommandEffect s i t) (hs : s.cal.valid.toNat < 2) :
    t.cal.valid.toNat < 2 := by
  rcases h.calValid with hv | hv | hv <;> rw [hv]
  · exact hs
  · decide
  · decide

theorem CommandEffect.sector_lt {i : Instr} {s t : State} (h : CommandEffect s i t) (hs : s.out.sector.toNat < 7) :
    t.out.sector.toNat < 7 := by
  rcases h.out with ho | ho | ⟨al, be, ho⟩ <;> rw [ho]
  · exact hs
  · decide
  · exact Nat.lt_succ_of_le (svpwm_sector_range _ _ _).2

theorem State.hostStore_keeps (s : State) (r : Reg) (v : Word) :
    (s.hostStore r v).status = s.status ∧ (s.hostStore r v).cal = s.cal ∧ (s.hostStore r v).out = s.out ∧
      (s.hostStore r v).ssGain = s.ssGain ∧ (s.hostStore r v).st = s.st ∧ (s.hostStore r v).cfg = s.cfg := by
  cases r <;> exact ⟨rfl, rfl, rfl, rfl, rfl, rfl⟩

/-- Settles O54: the three registers that are words are kept in range by each kind of event, the fourth by its type. -/
theorem reservedValuesNeverProduced : Obligations.ReservedValuesNeverProduced := by
  refine step_keeps (fun _ _ h => h) (fun s _ => s.resetEvent.reservedOk_of_zero rfl rfl rfl) (fun _ _ h => h)
    (fun s c h => ?raise) (fun s r v h => ?store) (fun i s t heffect h => ?exec)
  case raise =>
    obtain ⟨hstatus, hvalid, hsector⟩ := (State.reservedOk_iff s).mp h
    exact (State.reservedOk_iff _).mpr ⟨or_lt_sixteen _ _ hstatus c.mask_lt, hvalid, hsector⟩
  case store =>
    obtain ⟨hstatus, hcal, hout, -⟩ := s.hostStore_keeps r v
    rw [State.reservedOk_iff] at h ⊢
    rwa [hstatus, hcal, hout]
  case exec =>
    obtain ⟨hstatus, hvalid, hsector⟩ := (State.reservedOk_iff s).mp h
    exact (State.reservedOk_iff t).mpr
      ⟨heffect.status_lt hstatus, heffect.calValid_lt hvalid, heffect.sector_lt hsector⟩

/-! ### Output ranges -/

theorem CommandEffect.cfg {i : Instr} {s t : State} (h : CommandEffect s i t) : t.cfg = s.cfg := by
  obtain ⟨-, -, hcfg, -⟩ : t.inp = s.inp ∧ t.cmd = s.cmd ∧ t.cfg = s.cfg ∧ t.port = s.port ∧ t.rdData = s.rdData := by
    simpa [State.beyondCommands] using h.beyondCommands
  exact hcfg

theorem State.gainOk_of_zero (s : State) (h : s.ssGain = 0) : s.GainOk := by
  unfold State.GainOk
  rw [h]
  decide

/-- Settles O55: a command keeps, zeroes or recomputes the outputs and the gain, and what it recomputes is in range. -/
theorem outputRangesKept : Obligations.OutputRangesKept := by
  refine step_keeps (fun _ _ h => h) (fun s ⟨hpwm, _⟩ => ⟨hpwm, s.resetEvent.gainOk_of_zero rfl, .inl rfl⟩)
    (fun _ _ h => h) (fun _ _ h => h) (fun s r v h => ?store) (fun i s t heffect ⟨hpwm, hgain, hout⟩ => ?exec)
  case store =>
    obtain ⟨-, -, hout, hgain, -, hcfg⟩ := s.hostStore_keeps r v
    unfold State.RangesOk State.GainOk at h ⊢
    rwa [hcfg, hgain, hout]
  case exec =>
    unfold State.RangesOk State.GainOk
    rw [heffect.cfg]
    refine ⟨hpwm, ?gain, ?out⟩
    case gain =>
      rcases heffect.ssGain with hg | hg | ⟨rise, gain, enable, dt, hg⟩ <;> rw [hg]
      · exact hgain
      · decide
      · exact softStart_inUnit _ _ _ _
    case out =>
      rcases heffect.out with ho | ho | ⟨al, be, ho⟩ <;> rw [ho]
      · exact hout
      · exact .inl rfl
      · exact svpwm_ok _ _ _ hpwm

/-! ### The forced angle -/

/-- The forced angle and its step in a startup record. -/
def StRegs.AngleOk (r : StRegs) : Prop :=
  wrappedAngle r.thetaF ∧ -131072 ≤ r.dtheta.toInt ∧ r.dtheta.toInt ≤ 131072

theorem wrappedAngle_zero : wrappedAngle 0 := by
  unfold wrappedAngle
  decide

theorem StRegs.angleOk_of_zero (st : StState) : ({ StRegs.zero with state := st } : StRegs).AngleOk :=
  ⟨wrappedAngle_zero, (by decide : -131072 ≤ (0 : Word).toInt ∧ (0 : Word).toInt ≤ 131072)⟩

/-- The step of RAMP approaches its bound from one side, so it stays within 2.0, and one wrap follows the advance
(R204, R276). -/
theorem rampAdvance_angleOk (s : State) (h : s.ForcedAngleOk) : (rampAdvance s).AngleOk := by
  obtain ⟨hsteps, hmax, hangle, hlo, hhi⟩ := h
  obtain ⟨-, hslew, -⟩ : 0 ≤ s.cfg.stRampIqStep.toInt ∧ 0 ≤ s.cfg.stDthetaSlew.toInt ∧
      0 ≤ s.cfg.stIdDecayStep.toInt := by simpa [Config.stepsOk, and_assoc] using hsteps
  obtain ⟨hmaxLo, hmaxHi⟩ : -131072 ≤ s.cfg.stDthetaMax.toInt ∧ s.cfg.stDthetaMax.toInt ≤ 131072 := by
    simpa [Config.dthetaOk] using hmax
  obtain ⟨hbetween, hbetween'⟩ := approach_between s.st.dtheta s.cfg.stDthetaMax s.cfg.stDthetaSlew hslew
  have hdtheta : -131072 ≤ (rampAdvance s).dtheta.toInt ∧ (rampAdvance s).dtheta.toInt ≤ 131072 := by
    unfold rampAdvance
    dsimp only
    omega
  exact ⟨wrappedAngle_wrap_addSat _ _ hangle hdtheta.1 hdtheta.2, hdtheta⟩

theorem stUpdate_angleOk (s : State) (w emag2 thObs : Word) (h : s.ForcedAngleOk) :
    (stUpdate s w emag2 thObs).st.AngleOk := by
  have ⟨_, _, hangle, hstep⟩ := h
  have hkept : s.st.AngleOk := ⟨hangle, hstep⟩
  cases hst : s.st.state with
  | stop => rwa [stUpdate_of_stop _ _ _ _ hst]
  | run => rwa [stUpdate_of_run _ _ _ _ hst]
  | fail => rw [stUpdate_of_fail _ _ _ _ hst]; exact hkept
  | align =>
    rw [stUpdate_of_align _ _ _ _ hst]
    exact ⟨wrappedAngle_zero, hstep⟩
  | blend =>
    rw [stUpdate_of_blend _ _ _ _ hst, stBlend_eq]
    exact ⟨wrappedAngle_wrap_addSat _ _ hangle hstep.1 hstep.2, hstep⟩
  | ramp =>
    rw [stUpdate_of_ramp _ _ _ _ hst]
    have hramp := rampAdvance_angleOk s h
    by_cases hoff : handoffTest s w emag2 = true
    · rw [stRamp_of_handoff s w emag2 hoff]
      exact hramp
    · rcases le_or_gt s.cfg.stTimeoutTicks.toNat (incTicks s.st.ticks).toNat with htime | hwait
      · rw [stRamp_of_timeout s w emag2 hoff htime]
        exact hramp
      · rw [stRamp_of_waiting s w emag2 hoff hwait]
        exact hramp

/-- Settles O56: a command zeroes, keeps or updates the startup record once. -/
theorem forcedAngleKept : Obligations.ForcedAngleKept := by
  refine step_keeps (fun _ _ h => h) (fun s ⟨hsteps, hmax, _⟩ => ⟨hsteps, hmax, StRegs.angleOk_of_zero .stop⟩)
    (fun _ _ h => h) (fun _ _ h => h) (fun s r v h => ?store) (fun i s t heffect h => ?exec)
  case store =>
    obtain ⟨-, -, -, -, hst, hcfg⟩ := s.hostStore_keeps r v
    unfold State.ForcedAngleOk at h ⊢
    rwa [hst, hcfg]
  case exec =>
    obtain ⟨hsteps, hmax, hkept⟩ := h
    have hangle : t.st.AngleOk := by
      rcases heffect.st with ⟨hst, -⟩ | ⟨-, hst⟩ | hst | ⟨u, w, emag2, thObs, hu, hcfg, hst⟩ <;> rw [hst]
      · exact StRegs.angleOk_of_zero .stop
      · exact StRegs.angleOk_of_zero .align
      · exact hkept
      · refine stUpdate_angleOk u w emag2 thObs ?_
        unfold State.ForcedAngleOk
        rw [hu, hcfg]
        exact ⟨hsteps, hmax, hkept⟩
    unfold State.ForcedAngleOk
    rw [heffect.cfg]
    exact ⟨hsteps, hmax, hangle⟩

/-! ### After reset -/

theorem resetWith_reservedOk (c : Config) : (State.resetWith c).ReservedOk :=
  State.reservedOk_of_zero _ rfl rfl rfl

/-- Settles O57: every register the invariants speak of is 0 after reset, and 0 is in every range. -/
theorem invariantsHoldAtReset : Obligations.InvariantsHoldAtReset := by
  refine ⟨resetWith_reservedOk _, fun c hc => ⟨resetWith_reservedOk c, ?ranges, ?angle⟩⟩
  all_goals
    simp only [Config.WellFormed, Bool.and_eq_true] at hc
    obtain ⟨⟨⟨⟨⟨⟨⟨-, hpwm⟩, -⟩, -⟩, hsteps⟩, hmax⟩, -⟩, -⟩ := hc
  case ranges => exact ⟨hpwm, State.gainOk_of_zero _ rfl, .inl rfl⟩
  case angle => exact ⟨hsteps, hmax, StRegs.angleOk_of_zero .stop⟩

/-! ### Arrows and sticky bits -/

/-- The word a command was decoded from and the index it was written to are those of `Commands`. -/
theorem PortEvent.commands_of_decode {idx : PortIdx} {v : Word} {i : Instr} (hr : Reg.ofIndex idx = some .cmd)
    (hdecode : decode v = .ok i) : (PortEvent.wr idx v).Commands i := by
  have hidx : idx = 0x10#8 := (Reg.index_of_ofIndex hr).symm
  rw [PortEvent.Commands, hidx, encodeOfDecode v i hdecode]

/-- Settles O58, from the effect of a command on the startup record; no other event but reset writes it. -/
theorem startupArrows : Obligations.StartupArrows := by
  intro s t e rest hport hstep
  rw [step_of_event s e rest hport] at hstep
  obtain ⟨rfl, rfl⟩ | ⟨idx, rfl, rfl⟩ | ⟨_, _, rfl, rfl⟩ | ⟨_, v, r, rfl, -, -, -, rfl⟩ | ⟨_, v, _, rfl, -, -, rfl⟩ |
    ⟨idx, v, i, rfl, hr, hdecode, hcommand⟩ := State.portEvent_cases _ _ _ hstep
  · exact .inr (.inr (.inl ⟨rfl, .inl rfl⟩))
  · left
    unfold State.hostRd
    split <;> rfl
  · exact .inl rfl
  · obtain ⟨-, -, -, -, hst, -⟩ := State.hostStore_keeps { s with port := rest } r v
    exact .inl (congrArg StRegs.state hst)
  · exact .inl rfl
  · have hcommands := PortEvent.commands_of_decode hr hdecode
    rcases (effect_of_exec hcommand).st with ⟨hst, hcause⟩ | ⟨rfl, hst⟩ | hst | ⟨u, w, emag2, thObs, hu, -, hst⟩
    · refine .inr (.inr (.inl ⟨congrArg StRegs.state hst, .inr ?_⟩))
      rcases hcause with rfl | ⟨rfl, hoc⟩
      · exact .inl hcommands
      · exact .inr ⟨hcommands, hoc⟩
    · exact .inr (.inr (.inr ⟨congrArg StRegs.state hst, hcommands⟩))
    · exact .inl (congrArg StRegs.state hst)
    · have hentry : u.st.state = s.st.state := congrArg StRegs.state hu
      rw [hst, ← hentry]
      rcases stUpdate_arrow u w emag2 thObs with hsame | harrow
      · exact .inl hsame
      · exact .inr (.inl harrow)

theorem statusBit_or (status low : Word) (c : Cond) (h : statusBit status c = true) :
    statusBit (status ||| low) c = true := by
  unfold statusBit at h ⊢
  rw [bne_iff_ne] at h ⊢
  rw [BitVec.and_or_distrib_right]
  exact fun hzero => h (BitVec.or_eq_zero_iff.mp hzero).1

theorem statusBit_and_of_mask (status m : Word) (c : Cond) (hm : m &&& c.mask = c.mask) :
    statusBit (status &&& m) c = statusBit status c := by
  rw [statusBit, statusBit, BitVec.and_assoc, hm]

/-- A command that clears a bit of STATUS is STINIT for OC and SAFE_STOP, CLRSTAT for ILL and ACC (R27). -/
theorem CommandEffect.clears {i : Instr} {s t : State} (h : CommandEffect s i t) (c : Cond)
    (hset : statusBit s.status c = true) (hlost : ¬statusBit t.status c = true) :
    (i = .stinit ∧ (c = .oc ∨ c = .safeStop)) ∨ (i = .clrstat ∧ (c = .ill ∨ c = .acc)) := by
  rcases h.status with hst | hst | hst | ⟨hi, hst⟩ | ⟨hi, hst⟩ <;> rw [hst] at hlost
  · exact absurd hset hlost
  · exact absurd (statusBit_or _ _ c hset) hlost
  · exact absurd (statusBit_or _ _ c hset) hlost
  · refine .inl ⟨hi, ?_⟩
    cases c with
    | oc => exact .inl rfl
    | safeStop => exact .inr rfl
    | ill | acc => exact absurd hset (by rwa [statusBit_and_of_mask _ _ _ (by decide)] at hlost)
  · refine .inr ⟨hi, ?_⟩
    cases c with
    | ill => exact .inl rfl
    | acc => exact .inr rfl
    | oc | safeStop => exact absurd hset (by rwa [statusBit_and_of_mask _ _ _ (by decide)] at hlost)

/-- Settles O59: no event but reset and a command clears a bit, and two commands clear two bits each. -/
theorem statusBitsSticky : Obligations.StatusBitsSticky := by
  intro s t e rest c hport hstep hset hclear
  have hlost : ¬statusBit t.status c = true := by simp [hclear]
  rw [step_of_event s e rest hport] at hstep
  obtain ⟨rfl, rfl⟩ | ⟨idx, rfl, rfl⟩ | ⟨_, _, rfl, rfl⟩ | ⟨_, v, r, rfl, -, -, -, rfl⟩ | ⟨_, v, _, rfl, -, -, rfl⟩ |
    ⟨idx, v, i, rfl, hr, hdecode, hcommand⟩ := State.portEvent_cases _ _ _ hstep
  · exact .inl rfl
  · unfold State.hostRd at hlost
    split at hlost
    · exact absurd (statusBit_or _ _ c hset) hlost
    · exact absurd hset hlost
  · exact absurd (statusBit_or _ _ c hset) hlost
  · obtain ⟨hstatus, -⟩ := State.hostStore_keeps { s with port := rest } r v
    rw [hstatus] at hlost
    exact absurd hset hlost
  · exact absurd (statusBit_or _ _ c hset) hlost
  · have hcommands := PortEvent.commands_of_decode hr hdecode
    rcases (effect_of_exec hcommand).clears c hset hlost with ⟨rfl, hc⟩ | ⟨rfl, hc⟩
    · exact .inr (.inl ⟨hc, hcommands⟩)
    · exact .inr (.inr ⟨hc, hcommands⟩)

end Sys2Proof.Machine
end
